-- ==== Sys2Proof/Word.lean ====
section
/-! DEFINITION. The three widths of the block: a byte of source memory or of the event port, a 16-bit coordinate or
color, a 32-bit bus word or source address (spec/00_scope.md R9, R10). -/

namespace Sys2Proof

/-- One byte of source memory, or one event payload (20_memory.md R59). -/
abbrev Byte := BitVec 8

/-- A panel coordinate, a size or a packed color (10_state.md R21). -/
abbrev Half := BitVec 16

/-- A register-bus word or a source address (30_encoding.md R70, 20_memory.md R50). -/
abbrev Word := BitVec 32

end Sys2Proof
end

