-- ==== Sys2Proof/Config.lean ====
section
/-! DEFINITION. What an implementation fixes (the OPEN parameters of spec/00_scope.md R7) and the free values. No
constant declared `opaque` here has a body, so no proof can see which value it is. -/

namespace Sys2Proof

/-- The parameters of 00_scope.md R7. `Params.WellFormed` (WellFormed.lean) holds the legal ranges. -/
structure Params where
  /-- `NATIVE_W`: panel width in rotations 0 and 2. -/
  nativeW : Half
  /-- `NATIVE_H`: panel height in rotations 0 and 2. -/
  nativeH : Half
  /-- `SRC_SIZE`: how many bytes of source memory exist, from address 0. -/
  srcSize : Nat
  /-- `CMD_CASET`: the panel command byte that opens the column-address write. -/
  cmdCaset : Byte
  /-- `CMD_RASET`: the panel command byte that opens the row-address write. -/
  cmdRaset : Byte
  /-- `CMD_RAMWR`: the panel command byte that begins the pixel write. -/
  cmdRamwr : Byte
  deriving DecidableEq, Repr

/-- `NATIVE_W - 1`, any of 0..159 (00_scope.md R7; log 4). -/
opaque Config.nativeWLessOne : Fin 160

/-- `NATIVE_H - 1`, any of 0..159 (00_scope.md R7; log 4). -/
opaque Config.nativeHLessOne : Fin 160

/-- `SRC_SIZE - 1`, any of 0..2^32 - 1 (00_scope.md R7; log 4). -/
opaque Config.srcSizeLessOne : Word

/-- `CMD_CASET`, any byte (00_scope.md R7, 92 D7; log 18). -/
opaque Config.cmdCaset : Byte

/-- `CMD_RASET`, any byte (00_scope.md R7, 92 D7; log 18). -/
opaque Config.cmdRaset : Byte

/-- `CMD_RAMWR`, any byte (00_scope.md R7, 92 D7; log 18). -/
opaque Config.cmdRamwr : Byte

/-- This block's parameters. -/
def Config.params : Params where
  nativeW := BitVec.ofNat 16 (Config.nativeWLessOne.val + 1)
  nativeH := BitVec.ofNat 16 (Config.nativeHLessOne.val + 1)
  srcSize := Config.srcSizeLessOne.toNat + 1
  cmdCaset := Config.cmdCaset
  cmdRaset := Config.cmdRaset
  cmdRamwr := Config.cmdRamwr

/-- The free values (93_implementation_defined.md, treatment "any value"): the `n`-th draw, as a word of which a use
takes the width it needs. The step keys it by the counter `draws` of State, so each use draws afresh (log 1). -/
opaque Config.freeWord : Nat → Word

end Sys2Proof
end

