-- ==== Sys2Proof/Syntax.lean ====
section
/-! DEFINITION. The block's instruction set, WHOLE: the eight command words of spec/30_encoding.md R74 and the one RLE
token of R81, one constructor per row of spec/opcode_table.json. -/

namespace Sys2Proof

/-- One instruction. A field the spec calls don't-care for a command (R75) is no operand of it (log 16). -/
inductive Instr where
  /-- NOP (40_control.md R104). -/
  | nop
  /-- SETROT rot (40_control.md R105). -/
  | setrot (rot : BitVec 2)
  /-- WINDOW (41_window_pixel.md R121). -/
  | window
  /-- PIXEL (41_window_pixel.md R123). -/
  | pixel
  /-- CLOSE (41_window_pixel.md R124). -/
  | close
  /-- BLIT1 fh fv (43_blit.md R174); the flips are accepted, ignored and reported. -/
  | blit1 (fh fv : Bool)
  /-- BLIT4 fh fv (43_blit.md R175). -/
  | blit4 (fh fv : Bool)
  /-- BLITRLE fh fv (43_blit.md R176); the flips are accepted, ignored and reported. -/
  | blitRle (fh fv : Bool)
  /-- RUN: one RLE token, palette index `idx`, run length minus one `len` (30_encoding.md R81). -/
  | run (idx len : BitVec 4)
  deriving DecidableEq, Repr

end Sys2Proof
end

