-- ==== Sys2Proof/Machine/State.lean ====
section
/-! DEFINITION. The state of the block and of the agents around it, as plain data (spec/10_state.md), the reasons a step
can stop, and the state after reset (R36). INVENTORY.md lists every field with its rule and its reset value. -/

namespace Sys2Proof.Machine

open Sys2Proof

/-- One event of the output port (30_encoding.md R84). -/
inductive Event where
  /-- A byte in the panel's command mode. -/
  | cmd (b : Byte)
  /-- A byte in the panel's data mode. -/
  | dat (b : Byte)
  /-- `End`: the data-transfer line is deasserted. -/
  | fin
  deriving DecidableEq, Repr

/-- The sticky flags of STATUS (10_state.md R28); the bit numbers stand in Flags.lean. -/
inductive Flag where
  | errIllegal
  | errBusy
  | errNoWin
  | errWinOpen
  | errParam
  | errIndex
  | errTileId
  | errSrcRange
  | infoDropped
  | infoClamped
  | infoFlipIgnored
  deriving DecidableEq, Repr

/-- The twelve parameter registers (10_state.md R21). -/
inductive Operand where
  | dstX
  | dstY
  | tileW
  | tileH
  | imgW
  | imgH
  | winX1
  | winY1
  | srcBase
  | tableBase
  | sectionId
  | color
  deriving DecidableEq, Repr

/-- What a register number of the bus names (30_encoding.md R71). -/
inductive RegId where
  | cmd
  | status
  | operand (o : Operand)
  | rot
  | xoff
  | yoff
  | panelW
  | panelH
  | offx (r : BitVec 2)
  | offy (r : BitVec 2)
  | pal (k : BitVec 4)
  | reserved (a : BitVec 6)
  deriving DecidableEq, Repr

/-- A host-written register: its value and its written mark (10_state.md R22). -/
structure Marked (w : Nat) where
  value : BitVec w
  written : Bool
  deriving DecidableEq, Repr

/-- The parameter register file (10_state.md R21). -/
structure OperandFile where
  dstX : Marked 16
  dstY : Marked 16
  tileW : Marked 16
  tileH : Marked 16
  imgW : Marked 16
  imgH : Marked 16
  winX1 : Marked 16
  winY1 : Marked 16
  srcBase : Marked 32
  tableBase : Marked 32
  sectionId : Marked 16
  color : Marked 16
  deriving DecidableEq, Repr

/-- The orientation state (10_state.md R26). -/
structure Orientation where
  rot : BitVec 2
  xoff : Half
  yoff : Half
  panelW : Half
  panelH : Half
  deriving DecidableEq, Repr

/-- The region iterator of a blit in progress (10_state.md R33, R34): the operands it latched at accept and the position
`(i, j)` of the next destination pixel. For a BLITRLE it holds the latched sizes until the tile table has been read. -/
structure Iter where
  /-- Stored tile width `W`. -/
  tileW : Nat
  /-- Stored tile height `H`. -/
  tileH : Nat
  /-- Clamped width `w'` (43_blit.md R170). -/
  visW : Nat
  /-- Clamped height `h'`. -/
  visH : Nat
  /-- Bytes from one stored row to the next: `ceil8(W)` for BLIT1 (R144), `IMG_W` for BLIT4 (R148). -/
  stride : Nat
  /-- Address of the image (BLIT1), of the tile (BLIT4, R147), of the blob (BLITRLE). -/
  base : Word
  /-- Destination column of the next pixel. -/
  i : Nat
  /-- Destination row of the next pixel. -/
  j : Nat
  /-- The first free-value key this command reserved (log 1). -/
  keys : Nat
  deriving DecidableEq, Repr

/-- The RLE decoder's counters (10_state.md R35), with the sizes latched at accept (R33). -/
structure Rle where
  /-- Stored tile width `W`. -/
  tileW : Nat
  /-- Stored tile height `H`. -/
  tileH : Nat
  /-- Clamped width `w'`. -/
  visW : Nat
  /-- Clamped height `h'`. -/
  visH : Nat
  /-- `tp`: the address of the next token. -/
  tp : Word
  /-- `p`: the number of tile pixels decoded so far. -/
  p : Nat
  /-- The current run's palette index. -/
  runIdx : BitVec 4
  /-- The current run's remaining length. -/
  runLeft : Nat
  /-- The first free-value key of the token reads (log 1). -/
  keys : Nat
  deriving DecidableEq, Repr

/-- One register-bus transaction (30_encoding.md R70). -/
inductive BusOp where
  /-- `RegWrite(a, d)`. -/
  | write (a : BitVec 6) (d : Word)
  /-- `RegRead(a)`. -/
  | read (a : BitVec 6)
  deriving DecidableEq, Repr

/-- One move of one agent (00_scope.md R6). -/
inductive Move where
  /-- The host makes a bus transaction. -/
  | bus (op : BusOp)
  /-- The host makes a bus transaction in the same step as the block acts (40_control.md R102). -/
  | busWithBlock (op : BusOp)
  /-- The block performs one decode action of the command in progress. -/
  | block
  /-- The transport takes the event the block offers, if it offers one (30_encoding.md R84). -/
  | accept
  /-- The host writes a byte of source memory (20_memory.md R62). -/
  | hostStore (a : Word) (b : Byte)
  /-- Reset is asserted, with the bus transaction presented in the same step, if any (70 R230). -/
  | reset (along : Option BusOp)
  deriving DecidableEq, Repr

/-- Why the machine stops. -/
inductive Fault where
  /-- Raised by a host move that writes source memory at an address at or above `SRC_SIZE`, a byte that does not exist
  (20_memory.md R50). Safe: the spec gives no such write an effect (log 7). -/
  | hostStoreOutsideSource
  deriving DecidableEq, Repr

/-- Why a step has no meaning. -/
inductive Refusal where
  /-- Raised by an instruction with no meaning yet; no arm of `exec` raises it. Safe. -/
  | notModelled (mnemonic : String)
  /-- Raised by RUN when no RLE decoder is in progress: its operands `p`, `N`, `w'`, `h'` (42_decoders.md R152) then do not
  exist (10_state.md R35). No step raises it, since a token is fetched only by a decoder in progress. Safe (log 13). -/
  | noTokenStream
  deriving DecidableEq, Repr

/-- The whole state: the block (10_state.md R20), source memory, and the ports' other ends. -/
structure State where
  /-- The parameters of 00_scope.md R7; no step changes them. -/
  params : Params
  /-- The parameter registers (R21). -/
  operands : OperandFile
  /-- The palette LUT (R23). -/
  pal : Vector (Marked 16) 16
  /-- `OFFX[0..3]` (R25). -/
  offx : Vector (Marked 16) 4
  /-- `OFFY[0..3]` (R25). -/
  offy : Vector (Marked 16) 4
  /-- The orientation state (R26). -/
  orient : Orientation
  /-- STATUS (R28). -/
  status : Word
  /-- Step-9 flags the command in progress has raised, as STATUS bits, not yet settled (60_exceptions.md R205). -/
  raised : Word
  /-- Step-9 flags a STATUS write cleared while BUSY, as STATUS bits (R205). -/
  cleared : Word
  /-- The accepted command in progress (R33). -/
  current : Option Instr
  /-- The region iterator (R34). -/
  iter : Option Iter
  /-- The RLE decoder's counters (R35). -/
  rle : Option Rle
  /-- Events the transport has not yet accepted, in order (R34). -/
  pending : List Event
  /-- Source memory: strictly rising addresses, no cell equal to what an unlisted address reads as. -/
  mem : List Host.Cell
  /-- Bytes the host overwrote while BUSY, newest first, with the value each held before (20_memory.md R62). -/
  raced : List Host.Cell
  /-- Events the transport has accepted, oldest first (70 R242). -/
  accepted : List Event
  /-- The data the last RegRead returned (30_encoding.md R70). -/
  readData : Word
  /-- The agents' moves still to come, next first (log 5). -/
  schedule : List Move
  /-- The model's own: how many free values have been reserved (log 1). -/
  draws : Nat
  /-- The register of the first UnwrittenRead, if one has occurred (60_exceptions.md R213; log 3). -/
  modelFault : Option RegId
  deriving DecidableEq, Repr

/-- A register R36 leaves unspecified: the model's value 0 (DESIGN CHOICE, log 2), mark clear. -/
def Marked.unwritten (w : Nat) : Marked w := ⟨0, false⟩

/-- An offset-table entry after reset: 0, mark set (R36). -/
def Marked.zeroWritten (w : Nat) : Marked w := ⟨0, true⟩

/-- The parameter registers after reset (R36). -/
def OperandFile.reset : OperandFile where
  dstX := Marked.unwritten 16
  dstY := Marked.unwritten 16
  tileW := Marked.unwritten 16
  tileH := Marked.unwritten 16
  imgW := Marked.unwritten 16
  imgH := Marked.unwritten 16
  winX1 := Marked.unwritten 16
  winY1 := Marked.unwritten 16
  srcBase := Marked.unwritten 32
  tableBase := Marked.unwritten 32
  sectionId := Marked.unwritten 16
  color := Marked.unwritten 16

/-- The state after reset of a block with parameters `p` (R36, 70_reset_and_hazards.md R230), nothing scheduled. -/
def State.resetWith (p : Params) : State where
  params := p
  operands := OperandFile.reset
  pal := Vector.replicate 16 (Marked.unwritten 16)
  offx := Vector.replicate 4 (Marked.zeroWritten 16)
  offy := Vector.replicate 4 (Marked.zeroWritten 16)
  orient := { rot := 0, xoff := 0, yoff := 0, panelW := p.nativeW, panelH := p.nativeH }
  status := 0
  raised := 0
  cleared := 0
  current := none
  iter := none
  rle := none
  pending := []
  mem := []
  raced := []
  accepted := []
  readData := 0
  schedule := []
  draws := 0
  modelFault := none

/-- This block right after reset (R36). -/
def State.reset : State := State.resetWith Config.params

end Sys2Proof.Machine
end

