-- ==== Sys2Proof/Machine/Flags.lean ====
section
/-! DEFINITION. STATUS and its flags (spec/10_state.md R28 to R31): bit numbers, setting, the STATUS write (40 R102), and
when a flag of step 9 of R203 shows (60_exceptions.md R205). -/

namespace Sys2Proof.Machine

open Sys2Proof

/-- The STATUS bit of a flag, which is its cause code (10_state.md R28, 60_exceptions.md R201). -/
def Flag.bit : Flag → Nat
  | .errIllegal => 8
  | .errBusy => 9
  | .errNoWin => 10
  | .errWinOpen => 11
  | .errParam => 12
  | .errIndex => 13
  | .errTileId => 14
  | .errSrcRange => 15
  | .infoDropped => 16
  | .infoClamped => 17
  | .infoFlipIgnored => 18

/-- A flag as a mask over STATUS. -/
def Flag.mask (f : Flag) : Word := 1#32 <<< f.bit

/-- BUSY as a mask: bit 0 (R28). -/
def busyMask : Word := 0x00000001#32

/-- WIN_OPEN as a mask: bit 1 (R28). -/
def winOpenMask : Word := 0x00000002#32

/-- The sticky flags, bits 18:8 (R28). -/
def stickyMask : Word := 0x0007FF00#32

/-- The flags of step 9 of R203: ERR_INDEX, ERR_TILEID, ERR_SRC_RANGE, bits 15:13. -/
def lateMask : Word := 0x0000E000#32

/-- STATUS.BUSY (R29). -/
def State.busy (s : State) : Bool := s.status.getLsbD 0

/-- STATUS.WIN_OPEN (R30). -/
def State.winOpen (s : State) : Bool := s.status.getLsbD 1

/-- Whether STATUS shows flag `f`. -/
def State.shows (s : State) (f : Flag) : Bool := s.status.getLsbD f.bit

/-- `SetFlag(F)` (00_scope.md R11). -/
def State.setFlag (f : Flag) (s : State) : State := { s with status := s.status ||| f.mask }

/-- `SetFlag(F)` when `c` holds. -/
def State.setFlagIf (c : Bool) (f : Flag) (s : State) : State :=
  { s with status := if c then s.status ||| f.mask else s.status }

/-- `STATUS.BUSY <- b`. -/
def State.setBusy (b : Bool) (s : State) : State :=
  { s with status := if b then s.status ||| busyMask else s.status &&& ~~~busyMask }

/-- `STATUS.WIN_OPEN <- b`. -/
def State.setWinOpen (b : Bool) (s : State) : State :=
  { s with status := if b then s.status ||| winOpenMask else s.status &&& ~~~winOpenMask }

/-- `SetFlag(F)` for a flag of step 9 while a command runs, when `c` holds: it shows at the latest when the command
completes (R205). -/
def State.raiseIf (c : Bool) (f : Flag) (s : State) : State :=
  { s with raised := if c then s.raised ||| f.mask else s.raised }

/-- The raised flags that show now: each of them or not, a free value (R205). No draw is made where none is raised. -/
def State.shownLate (s : State) : Word :=
  if s.raised = 0 then 0 else s.raised &&& Config.freeWord s.draws

/-- Settles which raised flags a read of STATUS shows: one that has been read as 1 stays 1 until cleared (R205). -/
def State.showStatus (s : State) : State :=
  { s with
    status := s.status ||| s.shownLate
    draws := if s.raised = 0 then s.draws else s.draws + 1 }

/-- `StatusWrite(d)` (40_control.md R102): each sticky bit that is 1 in `d` is cleared. While BUSY the model notes which
flags of step 9 were cleared, since those the command sets end as either value (R205). -/
def State.statusWrite (d : Word) (s : State) : State :=
  { s with
    status := s.status &&& ~~~(d &&& stickyMask)
    cleared := if s.busy then s.cleared ||| (d &&& lateMask) else s.cleared }

/-- The flags that a completing command leaves set: every one it raised, but one cleared while BUSY is either value, a
free value (R205). -/
def State.settledLate (s : State) : Word :=
  (s.raised &&& ~~~s.cleared) |||
    (if s.raised &&& s.cleared = 0 then 0 else (s.raised &&& s.cleared) &&& Config.freeWord s.draws)

/-- The command in progress completes: BUSY falls (10_state.md R29), the flags of step 9 settle (R205), and the hidden
execution state is empty again (R36). -/
def State.complete (s : State) : State :=
  { s with
    status := (s.status ||| s.settledLate) &&& ~~~busyMask
    draws := if s.raised &&& s.cleared = 0 then s.draws else s.draws + 1
    raised := 0
    cleared := 0
    raced := []
    current := none }

end Sys2Proof.Machine
end

