-- ==== Sys2Proof/Machine/Operands.lean ====
section
/-! DEFINITION. The register file (spec/10_state.md R21 to R26) with its numbers on the bus (30_encoding.md R71), the
written marks and the model fault (60_exceptions.md R213), and the values commands make from their operands: the window
header, the pixel events, the clip and the tile base. -/

namespace Sys2Proof.Machine

open Sys2Proof

/-- The register map (30_encoding.md R71, R72). -/
def RegId.ofNumber (a : BitVec 6) : RegId :=
  match a.toNat with
  | 0x00 => .cmd
  | 0x01 => .status
  | 0x02 => .operand .dstX
  | 0x03 => .operand .dstY
  | 0x04 => .operand .tileW
  | 0x05 => .operand .tileH
  | 0x06 => .operand .imgW
  | 0x07 => .operand .imgH
  | 0x08 => .operand .winX1
  | 0x09 => .operand .winY1
  | 0x0A => .operand .srcBase
  | 0x0B => .operand .tableBase
  | 0x0C => .operand .sectionId
  | 0x0D => .operand .color
  | 0x0E => .rot
  | 0x0F => .xoff
  | 0x10 => .yoff
  | 0x11 => .panelW
  | 0x12 => .panelH
  | n =>
    if 0x14 ≤ n ∧ n ≤ 0x17 then .offx (BitVec.ofNat 2 (n - 0x14))
    else if 0x18 ≤ n ∧ n ≤ 0x1B then .offy (BitVec.ofNat 2 (n - 0x18))
    else if 0x20 ≤ n ∧ n ≤ 0x2F then .pal (BitVec.ofNat 4 (n - 0x20))
    else .reserved a

/-- The number of a register (30_encoding.md R71). -/
def RegId.number : RegId → BitVec 6
  | .cmd => 0x00
  | .status => 0x01
  | .operand .dstX => 0x02
  | .operand .dstY => 0x03
  | .operand .tileW => 0x04
  | .operand .tileH => 0x05
  | .operand .imgW => 0x06
  | .operand .imgH => 0x07
  | .operand .winX1 => 0x08
  | .operand .winY1 => 0x09
  | .operand .srcBase => 0x0A
  | .operand .tableBase => 0x0B
  | .operand .sectionId => 0x0C
  | .operand .color => 0x0D
  | .rot => 0x0E
  | .xoff => 0x0F
  | .yoff => 0x10
  | .panelW => 0x11
  | .panelH => 0x12
  | .offx r => BitVec.ofNat 6 (0x14 + r.toNat)
  | .offy r => BitVec.ofNat 6 (0x18 + r.toNat)
  | .pal k => BitVec.ofNat 6 (0x20 + k.toNat)
  | .reserved a => a

/-- Where a platform that maps the block into a host address space puts a register: `4·a` bytes from its base (R70). -/
def RegId.byteOffset (r : RegId) : Nat := 4 * r.number.toNat

/-- A write of bus data to a register of width `w`: the low `w` bits are kept, the mark is set (R21, R22). -/
def Marked.store (w : Nat) (d : Word) : Marked w := ⟨d.setWidth w, true⟩

/-- The value of a parameter register, zero-extended to the bus (20_memory.md R57). -/
def OperandFile.value (f : OperandFile) : Operand → Word
  | .dstX => f.dstX.value.setWidth 32
  | .dstY => f.dstY.value.setWidth 32
  | .tileW => f.tileW.value.setWidth 32
  | .tileH => f.tileH.value.setWidth 32
  | .imgW => f.imgW.value.setWidth 32
  | .imgH => f.imgH.value.setWidth 32
  | .winX1 => f.winX1.value.setWidth 32
  | .winY1 => f.winY1.value.setWidth 32
  | .srcBase => f.srcBase.value
  | .tableBase => f.tableBase.value
  | .sectionId => f.sectionId.value.setWidth 32
  | .color => f.color.value.setWidth 32

/-- The written mark of a parameter register (R22). -/
def OperandFile.written (f : OperandFile) : Operand → Bool
  | .dstX => f.dstX.written
  | .dstY => f.dstY.written
  | .tileW => f.tileW.written
  | .tileH => f.tileH.written
  | .imgW => f.imgW.written
  | .imgH => f.imgH.written
  | .winX1 => f.winX1.written
  | .winY1 => f.winY1.written
  | .srcBase => f.srcBase.written
  | .tableBase => f.tableBase.written
  | .sectionId => f.sectionId.written
  | .color => f.color.written

/-- The width of a parameter register (10_state.md R21). -/
def Operand.width : Operand → Nat
  | .srcBase | .tableBase => 32
  | .dstX | .dstY | .tileW | .tileH | .imgW | .imgH | .winX1 | .winY1 | .sectionId | .color => 16

/-- A bus write to a parameter register (40_control.md R100). -/
def OperandFile.store (o : Operand) (d : Word) (f : OperandFile) : OperandFile :=
  match o with
  | .dstX => { f with dstX := Marked.store 16 d }
  | .dstY => { f with dstY := Marked.store 16 d }
  | .tileW => { f with tileW := Marked.store 16 d }
  | .tileH => { f with tileH := Marked.store 16 d }
  | .imgW => { f with imgW := Marked.store 16 d }
  | .imgH => { f with imgH := Marked.store 16 d }
  | .winX1 => { f with winX1 := Marked.store 16 d }
  | .winY1 => { f with winY1 := Marked.store 16 d }
  | .srcBase => { f with srcBase := Marked.store 32 d }
  | .tableBase => { f with tableBase := Marked.store 32 d }
  | .sectionId => { f with sectionId := Marked.store 16 d }
  | .color => { f with color := Marked.store 16 d }

/-- Palette entry `PAL[k]` with its mark (10_state.md R23). -/
def State.palEntry (s : State) (k : BitVec 4) : Marked 16 := s.pal[k.toNat]'k.isLt

/-- `OFFX[r]` with its mark (10_state.md R25). -/
def State.offxEntry (s : State) (r : BitVec 2) : Marked 16 := s.offx[r.toNat]'r.isLt

/-- `OFFY[r]` with its mark (10_state.md R25). -/
def State.offyEntry (s : State) (r : BitVec 2) : Marked 16 := s.offy[r.toNat]'r.isLt

/-- The first register of `rs` whose mark is clear. -/
def firstUnwritten (rs : List (RegId × Bool)) : Option RegId := (rs.find? fun r => !r.2).map Prod.fst

/-- A command reads the registers `rs`, given with their marks, in this order: the first unwritten one is recorded as the
model fault `UnwrittenRead`, unless one is recorded already, since no later step clears it (60_exceptions.md R213). The
command goes on with the value the register holds, as the hardware does (log 3). -/
def State.use (rs : List (RegId × Bool)) (s : State) : State :=
  { s with modelFault := s.modelFault.or (firstUnwritten rs) }

/-- A command reads the parameter registers `os` (30_encoding.md R77). -/
def State.useOperands (os : List Operand) (s : State) : State :=
  s.use (os.map fun o => (.operand o, s.operands.written o))

/-- `PixelEvents(c)` (41_window_pixel.md R120): the high byte, then the low byte (30_encoding.md R86). -/
def pixelEvents (c : Half) : List Event := [.dat (c.extractLsb' 8 8), .dat (c.extractLsb' 0 8)]

/-- `Header(x0, y0, x1, y1)` (41_window_pixel.md R120): the 11 events of 30_encoding.md R85; the sums wrap at 16 bits and
nothing is checked (R126). -/
def State.header (s : State) (x0 y0 x1 y1 : Half) : List Event :=
  [.cmd s.params.cmdCaset] ++ pixelEvents (x0 + s.orient.xoff) ++ pixelEvents (x1 + s.orient.xoff) ++
  [.cmd s.params.cmdRaset] ++ pixelEvents (y0 + s.orient.yoff) ++ pixelEvents (y1 + s.orient.yoff) ++
  [.cmd s.params.cmdRamwr]

/-- `ceil8(w)` (00_scope.md R9). -/
def ceil8 (w : Nat) : Nat := (w + 7) / 8

/-- `Clip(x, y, W, H)` on a panel of `pw` by `ph`: `none` is DROP, else `(w', h')` (43_blit.md R170, R171). -/
def clip (x y w h pw ph : Nat) : Option (Nat × Nat) :=
  if w = 0 ∨ h = 0 ∨ pw ≤ x ∨ ph ≤ y then none else some (min w (pw - x), min h (ph - y))

/-- `Clip` on the operand registers and the current panel size (43_blit.md R173). -/
def State.clipped (s : State) : Option (Nat × Nat) :=
  clip s.operands.dstX.value.toNat s.operands.dstY.value.toNat s.operands.tileW.value.toNat
    s.operands.tileH.value.toNat s.orient.panelW.toNat s.orient.panelH.toNat

/-- The tile's offset in its image, exact: `(S·W) mod IW + ((S·W) div IW)·H·IW` (42_decoders.md R147). -/
def tileOffset (sec w h iw : Nat) : Nat := sec * w % iw + sec * w / iw * h * iw

/-- `tb`: the address of the tile's first byte (42_decoders.md R147); both sums truncate to 32 bits. -/
def State.tileBase (s : State) : Word :=
  s.operands.srcBase.value + BitVec.ofNat 32 (tileOffset s.operands.sectionId.value.toNat
    s.operands.tileW.value.toNat s.operands.tileH.value.toNat s.operands.imgW.value.toNat)

end Sys2Proof.Machine
end

