-- ==== Sys2Proof/Machine/Ops.lean ====
section
/-! DEFINITION. The named operations of the block: source memory (spec/20_memory.md), emitting events (30_encoding.md
R84), refusing a command (60_exceptions.md R202, the block's trap entry), accepting one (10_state.md R29, R33), completing
one (in Flags.lean), and reset (70_reset_and_hazards.md R230). The block has no return from a trap (R206). -/

namespace Sys2Proof.Machine

open Sys2Proof

/-- What a byte of source memory that nothing has written reads as (DESIGN CHOICE, log 6). -/
def Memory.unlisted : Byte := 0x00#8

/-- The byte at address `a`. -/
def Memory.read (m : List Host.Cell) (a : Nat) : Byte :=
  match m with
  | [] => Memory.unlisted
  | c :: rest => if c.1 = a then c.2 else Memory.read rest a

/-- A cell in front of a canonical tail: none where the byte is what an unlisted address reads as. -/
def Memory.cons (a : Nat) (b : Byte) (rest : List Host.Cell) : List Host.Cell :=
  if b = Memory.unlisted then rest else (a, b) :: rest

/-- The memory with `b` at address `a`, in canonical form. -/
def Memory.write (m : List Host.Cell) (a : Nat) (b : Byte) : List Host.Cell :=
  match m with
  | [] => Memory.cons a b []
  | c :: rest =>
    if a < c.1 then Memory.cons a b (c :: rest)
    else if c.1 = a then Memory.cons a b rest
    else c :: Memory.write rest a b

/-- The canonical form: addresses strictly rising, no cell equal to what an unlisted address reads as. -/
def Memory.wf : List Host.Cell → Bool
  | [] => true
  | [c] => decide (c.2 ≠ Memory.unlisted)
  | c :: d :: rest => decide (c.2 ≠ Memory.unlisted) && decide (c.1 < d.1) && Memory.wf (d :: rest)

/-- Whether source memory has a byte at `a` (20_memory.md R50). -/
def State.inSource (s : State) (a : Word) : Bool := decide (a.toNat < s.params.srcSize)

/-- The values the byte at `a` has held since the command in progress was accepted, the present one first. -/
def State.heldBytes (s : State) (a : Nat) : List Byte :=
  Memory.read s.mem a :: (s.raced.filter fun c => c.1 = a).map Prod.snd

/-- `MemRead(a, 1)` (20_memory.md R52), its free value keyed by `key`. Below `SRC_SIZE` it is the byte, or, where the host
has overwritten it during the command, any value it has held since accept (R62). At or above `SRC_SIZE` it is any byte. -/
def State.readSource (s : State) (a : Word) (key : Nat) : Byte :=
  if s.inSource a then
    match s.heldBytes a.toNat with
    | [b] => b
    | bs => bs.getD ((Config.freeWord key).toNat % bs.length) (Memory.read s.mem a.toNat)
  else (Config.freeWord key).setWidth 8

/-- The flag side of `MemRead(a, 1)`: ERR_SRC_RANGE at or above `SRC_SIZE` (R52). -/
def State.noteRange (a : Word) (s : State) : State := s.raiseIf (!s.inSource a) .errSrcRange

/-- `BE16(a)` (20_memory.md R54): the byte at the lower address is bits 15:8. -/
def State.readBE16 (s : State) (a : Word) (key : Nat) : Half :=
  s.readSource a key ++ s.readSource (a + 1) (key + 1)

/-- The flag side of `BE16(a)`. -/
def State.noteRange16 (a : Word) (s : State) : State := (s.noteRange a).noteRange (a + 1)

/-- `Emit` of a list of events (00_scope.md R11). -/
def State.emit (es : List Event) (s : State) : State := { s with pending := s.pending ++ es }

/-- One pixel of palette index `k`: the lookup (40_control.md R106) and its two events (R86). The palette entry counts as
read only here (30_encoding.md R77). -/
def State.emitPixel (k : BitVec 4) (s : State) : State :=
  (s.use [(.pal k, (s.palEntry k).written)]).emit (pixelEvents (s.palEntry k).value)

/-- Reserves `n` free values (log 1). -/
def State.reserve (n : Nat) (s : State) : State := { s with draws := s.draws + n }

/-- `raise Reject(F)` (60_exceptions.md R202): the flag is set, the transaction dropped, nothing else changes. -/
def State.reject (f : Flag) (s : State) : State := s.setFlag f

/-- A command that emits events is accepted: BUSY, the command held, its first events pending (10_state.md R29, R33). -/
def State.beginCommand (i : Instr) (es : List Event) (s : State) : State :=
  { (s.setBusy true).emit es with current := some i }

/-- The blit's decoder has produced its last pixel: `End` follows (43_blit.md R173). -/
def State.finishDecode (s : State) : State := { s.emit [.fin] with iter := none, rle := none }

/-- Whether the blit in progress has decode work left. -/
def State.decoding (s : State) : Bool := s.iter.isSome || s.rle.isSome

/-- Reset (70_reset_and_hazards.md R230): every piece of the block's state takes its value of 10_state.md R36; what the
other agents hold stays (source memory, accepted events, the schedule), and so do the model's own fields (log 20). -/
def State.resetBlock (s : State) : State :=
  { State.resetWith s.params with
    mem := s.mem
    accepted := s.accepted
    readData := s.readData
    schedule := s.schedule
    draws := s.draws
    modelFault := s.modelFault }

end Sys2Proof.Machine
end

