-- ==== Sys2Proof/Machine/Decoders.lean ====
section
/-! DEFINITION. The region iterator and the three bitmap decoders (spec/42_decoders.md), one decode action at a time: one
pixel of a BLIT1 or BLIT4, the table lookup of a BLITRLE, and RUN, the meaning of one RLE token. -/

namespace Sys2Proof.Machine

open Sys2Proof

/-- `SourceCoord(i, j, W, H, fh, fv)` (R142): the flips are applied to the whole stored tile. -/
def sourceCoord (i j w h : Nat) (fh fv : Bool) : Nat × Nat :=
  (if fh then w - 1 - i else i, if fv then h - 1 - j else j)

/-- The iterator after one pixel: row-major in panel scan order (R140). -/
def Iter.advance (it : Iter) : Iter :=
  if it.i + 1 < it.visW then { it with i := it.i + 1 } else { it with i := 0, j := it.j + 1 }

/-- Every row of the clamped tile has been produced. -/
def Iter.finished (it : Iter) : Bool := decide (it.visH ≤ it.j)

/-- The free-value key of the pixel at the iterator's position (log 1). -/
def Iter.key (it : Iter) : Nat := it.keys + (it.j * it.visW + it.i)

/-- Where a 1-bit pixel's byte lies (R144). -/
def Iter.monoAddr (it : Iter) : Word := it.base + BitVec.ofNat 32 (it.j * it.stride + it.i / 8)

/-- The palette index of the 1-bit pixel at column `i` of byte `b`, MSB first: bit 1 is entry 0, bit 0 entry 1 (R145). -/
def monoIndex (b : Byte) (i : Nat) : BitVec 4 := if b.getLsbD (7 - i % 8) then 0 else 1

/-- Where a 4-bit pixel's byte lies (R148). -/
def Iter.indexedAddr (it : Iter) (fh fv : Bool) : Word :=
  let c := sourceCoord it.i it.j it.tileW it.tileH fh fv
  it.base + BitVec.ofNat 32 (c.2 * it.stride + c.1)

/-- The palette index of a 4-bit pixel byte: its low four bits (R149). -/
def indexedIndex (b : Byte) : BitVec 4 := b.extractLsb' 0 4

/-- One decode action of a BLIT1: the next pixel (R144), or `End` after the last. -/
def monoMove (it : Iter) (s : State) : State :=
  if it.finished then s.finishDecode
  else
    { (s.noteRange it.monoAddr).emitPixel (monoIndex (s.readSource it.monoAddr it.key) it.i) with
      iter := some it.advance }

/-- One decode action of a BLIT4: the next pixel (R148), a byte above 15 noted as ERR_INDEX (R149), or `End`. -/
def indexedMove (fh fv : Bool) (it : Iter) (s : State) : State :=
  if it.finished then s.finishDecode
  else
    let b := s.readSource (it.indexedAddr fh fv) it.key
    { ((s.noteRange (it.indexedAddr fh fv)).raiseIf (decide (15 < b.toNat)) .errIndex).emitPixel (indexedIndex b) with
      iter := some it.advance }

/-- Whether the tile table has an offset for the tile identifier: `S < count` (R150, R151). -/
def State.tileListed (s : State) (keys : Nat) : Bool :=
  decide (s.operands.sectionId.value.toNat < (s.readBE16 s.operands.tableBase.value keys).toNat)

/-- Where the table element of the tile identifier `S` lies: `T + 2·(S + 1)` (R150). -/
def State.tableElement (s : State) : Word :=
  s.operands.tableBase.value + BitVec.ofNat 32 (2 * (s.operands.sectionId.value.toNat + 1))

/-- The tile's offset in the blob: element `S + 1`, or 0 for an identifier at or beyond the count (R150, R151). -/
def State.tokenOffset (s : State) (keys : Nat) : Half :=
  if s.tileListed keys then s.readBE16 s.tableElement (keys + 2) else 0

/-- The flags of the table lookup: ERR_SRC_RANGE for the elements read, ERR_TILEID for an unlisted identifier (R151). -/
def State.noteLookup (keys : Nat) (s : State) : State :=
  let t := s.noteRange16 s.operands.tableBase.value
  if s.tileListed keys then t.noteRange16 s.tableElement else t.raiseIf true .errTileId

/-- The first decode action of a BLITRLE: the table lookup, which sets the token pointer (R150). -/
def tableMove (it : Iter) (s : State) : State :=
  { s.noteLookup it.keys with
    iter := none
    rle := some
      { tileW := it.tileW, tileH := it.tileH, visW := it.visW, visH := it.visH
        tp := it.base + (s.tokenOffset it.keys).setWidth 32
        p := 0, runIdx := 0, runLeft := 0, keys := it.keys + 4 } }

/-- `N = W · H`: the pixel budget of the stored tile (R153). -/
def Rle.budget (r : Rle) : Nat := r.tileW * r.tileH

/-- The tile is decoded: `p = N` (R155). -/
def Rle.finished (r : Rle) : Bool := decide (r.budget ≤ r.p)

/-- Whether tile pixel `p` lies in the clamped part: column `< w'`, row `< h'` (R157). -/
def Rle.visible (r : Rle) : Bool := decide (r.p % r.tileW < r.visW) && decide (r.p / r.tileW < r.visH)

/-- The byte of the next token (R153). -/
def State.tokenByte (s : State) (r : Rle) : Byte := s.readSource r.tp (r.keys + r.p)

/-- The fetch of a token: `tp` advances past it, wrapping at 32 bits (R153). -/
def State.fetchToken (r : Rle) (s : State) : State :=
  { s.noteRange r.tp with rle := some { r with tp := r.tp + 1 } }

/-- One pixel of the current run: emitted where it is visible, counted in any case (R152, R157). -/
def runPixel (s : State) : State :=
  match s.rle with
  | none => s
  | some r =>
    { (if r.visible then s.emitPixel r.runIdx else s) with
      rle := some { r with p := r.p + 1, runLeft := r.runLeft - 1 } }

/-- `n` pixels of the current run. -/
def runPixels : Nat → State → State
  | 0, s => s
  | n + 1, s => runPixels n (runPixel s)

/-- `k = min(run, N - p)`: the run of length `len + 1`, cut at the budget (R152, R154). -/
def Rle.runLength (r : Rle) (len : BitVec 4) : Nat := min (len.toNat + 1) (r.budget - r.p)

/-- RUN idx len (R152): the current run becomes `k` pixels of `idx`, and they are decoded. -/
def execRun (idx len : BitVec 4) (s : State) : Host.Outcome State Fault Refusal :=
  match s.rle with
  | none => .refused .noTokenStream
  | some r =>
    .next (runPixels (r.runLength len) { s with rle := some { r with runIdx := idx, runLeft := r.runLength len } })

end Sys2Proof.Machine
end

