-- ==== Sys2Proof/Machine/Blit.lean ====
section
/-! DEFINITION. The blit commands BLIT1, BLIT4 and BLITRLE (spec/43_blit.md): refusal checks, the shared clip and envelope,
and the start of the decoder each drives. The decode actions that follow are in Decoders.lean. -/

namespace Sys2Proof.Machine

open Sys2Proof

/-- The registers every blit reads for its clip (30_encoding.md R77). -/
def clipOperands : List Operand := [.dstX, .dstY, .tileW, .tileH]

/-- The header of a blit clamped to `w'` by `h'`: bounds `(x, y)` to `(x + w' - 1, y + h' - 1)` (R173). -/
def State.blitHeader (s : State) (w h : Nat) : List Event :=
  s.header s.operands.dstX.value s.operands.dstY.value (s.operands.dstX.value + BitVec.ofNat 16 (w - 1))
    (s.operands.dstY.value + BitVec.ofNat 16 (h - 1))

/-- Whether the clip cut the tile (R172). -/
def State.isClamped (s : State) (w h : Nat) : Bool :=
  decide (w < s.operands.tileW.value.toNat) || decide (h < s.operands.tileH.value.toNat)

/-- The region iterator at the start of a blit. -/
def State.startIter (s : State) (stride : Nat) (base : Word) (w h : Nat) : Iter where
  tileW := s.operands.tileW.value.toNat
  tileH := s.operands.tileH.value.toNat
  visW := w
  visH := h
  stride := stride
  base := base
  i := 0
  j := 0
  keys := s.draws

/-- `BlitEnvelope` up to its first pixel (R173): drop (R171) or clamp (R172), window and BUSY, the header pending, the
decoder ready. `extra` is what the decoder reads besides the clip's operands (R77), `keys` how many free values it may use. -/
def blitEnvelope (i : Instr) (extra : List Operand) (stride : Nat) (base : Word) (keys : Nat → Nat → Nat) (s : State) :
    State :=
  let t := s.useOperands clipOperands
  match s.clipped with
  | none => t.setFlag .infoDropped
  | some (w, h) =>
    { ((((t.useOperands extra).setFlagIf (s.isClamped w h) .infoClamped).setWinOpen true).beginCommand i
        (s.blitHeader w h)).reserve (keys w h) with
      iter := some (s.startIter stride base w h) }

/-- The free values a pixel-by-pixel decoder may use: one a pixel. -/
def pixelKeys (w h : Nat) : Nat := w * h

/-- The free values a BLITRLE may use: four table bytes and at most one token a tile pixel. -/
def State.rleKeys (s : State) (_w _h : Nat) : Nat :=
  4 + s.operands.tileW.value.toNat * s.operands.tileH.value.toNat

/-- BLIT1 fh fv (R174): refused while a window is open; the flips are ignored and reported (42_decoders.md R146). -/
def execBlit1 (fh fv : Bool) (s : State) : Host.Outcome State Fault Refusal :=
  if s.winOpen then .next (s.reject .errWinOpen)
  else
    .next (blitEnvelope (.blit1 fh fv) [.srcBase] (ceil8 s.operands.tileW.value.toNat) s.operands.srcBase.value pixelKeys
      (s.setFlagIf (fh || fv) .infoFlipIgnored))

/-- BLIT4 fh fv (R175): refused while a window is open, then refused when `IMG_W = 0`, before the clip. -/
def execBlit4 (fh fv : Bool) (s : State) : Host.Outcome State Fault Refusal :=
  if s.winOpen then .next (s.reject .errWinOpen)
  else if s.operands.imgW.value = 0 then .next ((s.useOperands [.imgW]).reject .errParam)
  else
    .next (blitEnvelope (.blit4 fh fv) [.sectionId, .srcBase] s.operands.imgW.value.toNat s.tileBase pixelKeys
      (s.useOperands [.imgW]))

/-- BLITRLE fh fv (R176): refused while a window is open; the flips are ignored and reported (42_decoders.md R158). -/
def execBlitRle (fh fv : Bool) (s : State) : Host.Outcome State Fault Refusal :=
  if s.winOpen then .next (s.reject .errWinOpen)
  else
    .next (blitEnvelope (.blitRle fh fv) [.sectionId, .tableBase, .srcBase] 0 s.operands.srcBase.value s.rleKeys
      (s.setFlagIf (fh || fv) .infoFlipIgnored))

end Sys2Proof.Machine
end

