-- ==== Sys2Proof/Machine/Control.lean ====
section
/-! DEFINITION. The control commands: NOP (spec/40_control.md R104) and SETROT (R105). -/

namespace Sys2Proof.Machine

open Sys2Proof

/-- NOP (R104): nothing. -/
def execNop (s : State) : Host.Outcome State Fault Refusal := .next s

/-- The orientation SETROT sets: the offsets of the table's entry `r`, and the native size, swapped for odd `r` (R105). -/
def State.orientationFor (s : State) (r : BitVec 2) : Orientation where
  rot := r
  xoff := (s.offxEntry r).value
  yoff := (s.offyEntry r).value
  panelW := if r.toNat % 2 = 0 then s.params.nativeW else s.params.nativeH
  panelH := if r.toNat % 2 = 0 then s.params.nativeH else s.params.nativeW

/-- The registers SETROT reads (30_encoding.md R77). -/
def State.useOffsets (r : BitVec 2) (s : State) : State :=
  s.use [(.offx r, (s.offxEntry r).written), (.offy r, (s.offyEntry r).written)]

/-- SETROT rot (R105): refused while a window is open, else the orientation state takes its new values at once. -/
def execSetrot (rot : BitVec 2) (s : State) : Host.Outcome State Fault Refusal :=
  if s.winOpen then .next (s.reject .errWinOpen)
  else .next { s.useOffsets rot with orient := s.orientationFor rot }

end Sys2Proof.Machine
end

