-- ==== Sys2Proof/Machine/Window.lean ====
section
/-! DEFINITION. The addressing window and the pixel serializer: WINDOW, PIXEL, CLOSE (spec/41_window_pixel.md). -/

namespace Sys2Proof.Machine

open Sys2Proof

/-- The header a WINDOW sends: the bounds as the registers hold them, unchecked (R121, R126). -/
def State.windowHeader (s : State) : List Event :=
  s.header s.operands.dstX.value s.operands.dstY.value s.operands.winX1.value s.operands.winY1.value

/-- WINDOW (R121): the window is open and its header pending, whether or not one was open before (R122). -/
def execWindow (s : State) : Host.Outcome State Fault Refusal :=
  .next (((s.useOperands [.dstX, .dstY, .winX1, .winY1]).setWinOpen true).beginCommand .window s.windowHeader)

/-- PIXEL (R123): refused without a window, else the two bytes of COLOR. -/
def execPixel (s : State) : Host.Outcome State Fault Refusal :=
  if s.winOpen then
    .next ((s.useOperands [.color]).beginCommand .pixel (pixelEvents s.operands.color.value))
  else .next (s.reject .errNoWin)

/-- CLOSE (R124): nothing without a window, else the window is closed and `End` pending. -/
def execClose (s : State) : Host.Outcome State Fault Refusal :=
  if s.winOpen then .next ((s.setWinOpen false).beginCommand .close [.fin]) else .next s

end Sys2Proof.Machine
end

