-- ==== Sys2Proof/Machine/Dispatch.lean ====
section
/-! DEFINITION. One arm per constructor of Instr, each one call of its meaning. -/

namespace Sys2Proof.Machine

open Sys2Proof

def exec (i : Instr) (s : State) : Host.Outcome State Fault Refusal :=
  match i with
  | .nop => Sys2Proof.Machine.execNop s
  | .setrot rot => Sys2Proof.Machine.execSetrot rot s
  | .window => Sys2Proof.Machine.execWindow s
  | .pixel => Sys2Proof.Machine.execPixel s
  | .close => Sys2Proof.Machine.execClose s
  | .blit1 fh fv => Sys2Proof.Machine.execBlit1 fh fv s
  | .blit4 fh fv => Sys2Proof.Machine.execBlit4 fh fv s
  | .blitRle fh fv => Sys2Proof.Machine.execBlitRle fh fv s
  | .run idx len => Sys2Proof.Machine.execRun idx len s

end Sys2Proof.Machine
end

