-- ==== Sys2Proof/WellFormed.lean ====
section
/-! DEFINITION. The well-formedness checks: a command word has a defined opcode and clear reserved bits
(spec/30_encoding.md R73 to R75), and the parameters lie in their legal ranges (spec/00_scope.md R7). An `Instr` needs no
check: each operand's type is its field's width, so every value of it is one the encoding admits (R76, R81, R90). -/

namespace Sys2Proof

/-- The opcode field `d[3:0]` names one of the eight commands (R74). -/
abbrev CommandWord.OpcodeDefined (d : Word) : Prop := (d.extractLsb' 0 4).toNat < 8

/-- Bits 7:6 are clear (R73). -/
abbrev CommandWord.MiddleClear (d : Word) : Prop := d.extractLsb' 6 2 = 0

/-- Bits 31:10 are clear (R73). -/
abbrev CommandWord.HighClear (d : Word) : Prop := d.extractLsb' 10 22 = 0

/-- A legal command word (R75). -/
abbrev CommandWord.WellFormed (d : Word) : Prop :=
  CommandWord.OpcodeDefined d ∧ CommandWord.MiddleClear d ∧ CommandWord.HighClear d

/-- The legal values of 00_scope.md R7: panel axes 1..160, source memory 1..2^32 bytes. -/
abbrev Params.WellFormed (p : Params) : Prop :=
  (1 ≤ p.nativeW.toNat ∧ p.nativeW.toNat ≤ 160) ∧ (1 ≤ p.nativeH.toNat ∧ p.nativeH.toNat ≤ 160) ∧
    (1 ≤ p.srcSize ∧ p.srcSize ≤ 2 ^ 32)

end Sys2Proof
end

