-- ==== Sys2Proof/Decode.lean ====
section
/-! DEFINITION. Decoding and encoding of the two instruction formats: the command word of spec/30_encoding.md R73, R74
and the RLE token of R81. Decoding is total (R90) and rejects by name (R75). -/

namespace Sys2Proof

/-- Why a command word is illegal (R75). Either way the block answers ERR_ILLEGAL (40_control.md R107). -/
inductive DecodeError where
  /-- A bit of 31:10 or 7:6 is set. -/
  | reservedBits
  /-- The opcode is one of 0x8..0xF. -/
  | reservedOpcode (op : BitVec 4)
  deriving DecidableEq, Repr

/-- An instruction as the hardware receives it: a word written to `CMD`, or a byte of the RLE blob (R87). -/
inductive Encoded where
  | command (d : Word)
  | token (t : Byte)
  deriving DecidableEq, Repr

/-- `fh = d[4]` (R76). -/
def flipHField (d : Word) : Bool := d.getLsbD 4

/-- `fv = d[5]` (R76). -/
def flipVField (d : Word) : Bool := d.getLsbD 5

/-- `rot = d[9:8]` (R76). -/
def rotField (d : Word) : BitVec 2 := d.extractLsb' 8 2

/-- `op = d[3:0]` (R73). -/
def opField (d : Word) : BitVec 4 := d.extractLsb' 0 4

/-- The opcode map of R74. -/
def commandOfOpcode (d : Word) : Except DecodeError Instr :=
  match (opField d).toNat with
  | 0 => .ok .nop
  | 1 => .ok (.setrot (rotField d))
  | 2 => .ok .window
  | 3 => .ok .pixel
  | 4 => .ok .close
  | 5 => .ok (.blit1 (flipHField d) (flipVField d))
  | 6 => .ok (.blit4 (flipHField d) (flipVField d))
  | 7 => .ok (.blitRle (flipHField d) (flipVField d))
  | _ => .error (.reservedOpcode (opField d))

/-- The decode of a word written to `CMD` (40_control.md R103). -/
def decodeCommand (d : Word) : Except DecodeError Instr :=
  if CommandWord.HighClear d ∧ CommandWord.MiddleClear d then commandOfOpcode d else .error .reservedBits

/-- The decode of an RLE token: `idx = t[7:4]`, `len = t[3:0]`, every byte legal (R81). -/
def decodeToken (t : Byte) : Instr := .run (t.extractLsb' 4 4) (t.extractLsb' 0 4)

/-- The whole decoder. -/
def decode : Encoded → Except DecodeError Instr
  | .command d => decodeCommand d
  | .token t => .ok (decodeToken t)

/-- A command word from its fields, reserved bits 0 (R73). -/
def commandWord (rot : BitVec 2) (fv fh : Bool) (op : BitVec 4) : Word :=
  ((0#22 ++ rot) ++ ((0#2 ++ BitVec.ofBool fv) ++ BitVec.ofBool fh)) ++ op

/-- The encoder, from the tables R74, R81 and R89; a don't-care field is written 0. -/
def encode : Instr → Encoded
  | .nop => .command (commandWord 0 false false 0)
  | .setrot rot => .command (commandWord rot false false 1)
  | .window => .command (commandWord 0 false false 2)
  | .pixel => .command (commandWord 0 false false 3)
  | .close => .command (commandWord 0 false false 4)
  | .blit1 fh fv => .command (commandWord 0 fv fh 5)
  | .blit4 fh fv => .command (commandWord 0 fv fh 6)
  | .blitRle fh fv => .command (commandWord 0 fv fh 7)
  | .run idx len => .token (idx ++ len)

/-- The instruction the decoder reads from a row's word `w` of `nbits` bits: 32 bits a command word (one bus word, R57),
8 bits an RLE token (one byte, R87). -/
def decodeTableWord (nbits w : Nat) : Option Instr :=
  match nbits with
  | 8 => some (decodeToken (BitVec.ofNat 8 w))
  | 32 => (decodeCommand (BitVec.ofNat 32 w)).toOption
  | _ => none

end Sys2Proof
end

