-- ==== Sys2Proof/Machine/Bus.lean ====
section
/-! DEFINITION. The register bus (spec/40_control.md R100 to R102): a RegWrite other than to CMD, a RegRead, and the host's
transactions as its assembler writes them (30_encoding.md R88, R89). -/

namespace Sys2Proof.Machine

open Sys2Proof

/-- The write of an accepted RegWrite to a register (R100): value truncated to its width, mark set. A register that is not
host-written is left as it is. -/
def State.storeReg (r : RegId) (d : Word) (s : State) : State :=
  match r with
  | .operand o => { s with operands := s.operands.store o d }
  | .offx k => { s with offx := s.offx.set k.toNat (Marked.store 16 d) k.isLt }
  | .offy k => { s with offy := s.offy.set k.toNat (Marked.store 16 d) k.isLt }
  | .pal k => { s with pal := s.pal.set k.toNat (Marked.store 16 d) k.isLt }
  | .cmd | .status | .rot | .xoff | .yoff | .panelW | .panelH | .reserved _ => s

/-- A RegWrite to a host-written register: ignored with ERR_BUSY while BUSY (R100). -/
def State.storeIdle (r : RegId) (d : Word) (s : State) : State :=
  if s.busy then s.setFlag .errBusy else s.storeReg r d

/-- A RegWrite to any register but CMD, in the order of checks of 60_exceptions.md R203. A write to CMD is Turn.lean's. -/
def State.regWrite (r : RegId) (d : Word) (s : State) : State :=
  match r with
  | .reserved _ | .rot | .xoff | .yoff | .panelW | .panelH => s.reject .errIllegal
  | .status => s.statusWrite d
  | .operand _ | .offx _ | .offy _ | .pal _ => s.storeIdle r d
  | .cmd => s

/-- The data of a read of a register with a written mark: its value, or a free value of its width where nothing has written
it since reset (R101, U3). -/
def State.markedData (s : State) {w : Nat} (m : Marked w) : Word :=
  if m.written then m.value.setWidth 32 else ((Config.freeWord s.draws).setWidth w).setWidth 32

/-- The data of a read of a parameter register. -/
def State.operandData (s : State) (o : Operand) : Word :=
  if s.operands.written o then s.operands.value o else ((Config.freeWord s.draws).setWidth o.width).setWidth 32

/-- The data of a RegRead (R101), STATUS as it stands. -/
def State.regData (s : State) : RegId → Word
  | .cmd => 0
  | .status => s.status
  | .operand o => s.operandData o
  | .rot => s.orient.rot.setWidth 32
  | .xoff => s.orient.xoff.setWidth 32
  | .yoff => s.orient.yoff.setWidth 32
  | .panelW => s.orient.panelW.setWidth 32
  | .panelH => s.orient.panelH.setWidth 32
  | .offx r => (s.offxEntry r).value.setWidth 32
  | .offy r => (s.offyEntry r).value.setWidth 32
  | .pal k => s.markedData (s.palEntry k)
  | .reserved _ => 0

/-- How many free values a read of the register uses: one where its mark is clear. -/
def State.dataKeys (s : State) : RegId → Nat
  | .operand o => if s.operands.written o then 0 else 1
  | .pal k => if (s.palEntry k).written then 0 else 1
  | .cmd | .status | .rot | .xoff | .yoff | .panelW | .panelH | .offx _ | .offy _ | .reserved _ => 0

/-- `RegRead(a) -> d` (R101): legal at any time. A read of STATUS first settles which raised flags it shows (R205). -/
def State.regRead (r : RegId) (s : State) : State :=
  match r with
  | .status => { s.showStatus with readData := s.showStatus.status }
  | .cmd | .operand _ | .rot | .xoff | .yoff | .panelW | .panelH | .offx _ | .offy _ | .pal _ | .reserved _ =>
    { s.reserve (s.dataKeys r) with readData := s.regData r }

/-- The sticky flags a transaction clears, of those of step 9 (R102). -/
def BusOp.clearsLate : BusOp → Word
  | .write a d => if RegId.ofNumber a = .status then d &&& lateMask else 0
  | .read _ => 0

/-- `wr NAME, value` (30_encoding.md R88). -/
def wr (r : RegId) (d : Word) : Move := .bus (.write r.number d)

/-- `rd NAME` (R88). -/
def rd (r : RegId) : Move := .bus (.read r.number)

/-- A command mnemonic with its operands, `wr CMD, word` (R89); none for RUN, which is no command. -/
def issue (i : Instr) : Option Move :=
  match encode i with
  | .command d => some (wr .cmd d)
  | .token _ => none

/-- `clr` (R89): clear every sticky flag. -/
def clr : Move := wr .status stickyMask

end Sys2Proof.Machine
end

