-- ==== Sys2Proof/Machine/Transport.lean ====
section
/-! DEFINITION. The event port and the transport (spec/30_encoding.md R84): the block offers its oldest pending event, and
an accepted event leaves it. With the last event of a command the command completes (10_state.md R29, R30). -/

namespace Sys2Proof.Machine

open Sys2Proof

/-- `ev_kind` (R84). -/
def Event.kind : Event → BitVec 2
  | .cmd _ => 0
  | .dat _ => 1
  | .fin => 2

/-- `ev_byte` (R84). -/
def Event.byte : Event → Byte
  | .cmd b => b
  | .dat b => b
  | .fin => 0

/-- `ev_valid` (R84): the block offers an event. -/
def State.evValid (s : State) : Bool := !s.pending.isEmpty

/-- The transport's side of a handshake: the event `e` moves from the block to the accepted stream, once and in order
(20_memory.md R61). -/
def State.passEvent (e : Event) (rest : List Event) (s : State) : State :=
  { s with pending := rest, accepted := s.accepted ++ [e] }

/-- What an accepted `End` does: the window is no longer open (10_state.md R30; log 17). -/
def State.closeOn (e : Event) (s : State) : State :=
  if e = .fin then s.setWinOpen false else s

/-- The command completes when no event is pending and no decode work is left (10_state.md R29). -/
def State.completeIfDone (s : State) : State :=
  if s.pending.isEmpty && !s.decoding then s.complete else s

/-- `ev_ready`: the transport takes the event offered; where none is offered nothing happens (R84). -/
def State.acceptEvent (s : State) : State :=
  match s.pending with
  | [] => s
  | e :: rest => ((s.passEvent e rest).closeOn e).completeIfDone

end Sys2Proof.Machine
end

