-- ==== Sys2Proof/Machine/Turn.lean ====
section
/-! DEFINITION. What the next step does: which agent moves (spec/00_scope.md R6), the dispatch of a command (40 R103), the
fetch of an RLE token (42 R153), the other decode actions, the host's writes to source memory, and reset. -/

namespace Sys2Proof.Machine

open Sys2Proof

/-- What a move comes to: an instruction to run in a state, a state, or a stop. -/
inductive Turn where
  | run (i : Instr) (s : State)
  | done (s : State)
  | stop (f : Fault)
  deriving DecidableEq, Repr

/-- `Dispatch(d)` (40_control.md R103), after the busy check of R100. -/
def commandTurn (d : Word) (s : State) : Turn :=
  if s.busy then .done (s.setFlag .errBusy)
  else
    match decodeCommand d with
    | .ok i => .run i s
    | .error _ => .done (s.reject .errIllegal)

/-- A bus transaction (30_encoding.md R70). -/
def busTurn (op : BusOp) (s : State) : Turn :=
  match op with
  | .read a => .done (s.regRead (RegId.ofNumber a))
  | .write a d => if RegId.ofNumber a = .cmd then commandTurn d s else .done (s.regWrite (RegId.ofNumber a) d)

/-- A decode action that a region iterator drives: the decoder is the accepted command's (10_state.md R33). -/
def iterTurn (it : Iter) (s : State) : Turn :=
  match s.current with
  | some (.blit1 _ _) => .done (monoMove it s)
  | some (.blit4 fh fv) => .done (indexedMove fh fv it s)
  | some (.blitRle _ _) => .done (tableMove it s)
  | _ => .done s

/-- A decode action of the RLE decoder: fetch the next token and run it, or `End` once the budget is met (R153, R155). -/
def rleTurn (r : Rle) (s : State) : Turn :=
  if r.finished then .done s.finishDecode else .run (decodeToken (s.tokenByte r)) (s.fetchToken r)

/-- One decode action of the block; nothing where it has no decode work. -/
def blockTurn (s : State) : Turn :=
  match s.rle with
  | some r => rleTurn r s
  | none =>
    match s.iter with
    | some it => iterTurn it s
    | none => .done s

/-- A turn with its state changed. -/
def Turn.map (f : State → State) : Turn → Turn
  | .run i s => .run i (f s)
  | .done s => .done (f s)
  | .stop r => .stop r

/-- After the block has acted in the step of a transaction that cleared the flags `m`: those it has just raised were cleared
first and set second, so they read 1 (40_control.md R102). `before` are the flags raised earlier. -/
def State.setAfterClear (m before : Word) (s : State) : State :=
  { s with
    status := s.status ||| (s.raised &&& m)
    raised := before ||| s.raised }

/-- The block's action after the transaction of the same step, `t` the state the transaction left. -/
def sameStepBlock (m : Word) (t : State) : Turn :=
  (blockTurn { t with raised := 0 }).map (State.setAfterClear m t.raised)

/-- A bus transaction with the block acting in the same step: the transaction takes effect as a whole first (20_memory.md
R59). While BUSY no command can be dispatched, so the block acts after it; an idle block has nothing to do (log 11). -/
def busBlockTurn (op : BusOp) (s : State) : Turn :=
  match busTurn op s with
  | .done t => if s.busy then sameStepBlock op.clearsLate t else .done t
  | .run i t => .run i t
  | .stop f => .stop f

/-- The host writes a byte of source memory; a byte overwritten while BUSY is kept as one a read may still give (20_memory.md
R62). -/
def hostStoreTurn (a : Word) (b : Byte) (s : State) : Turn :=
  if s.inSource a then
    .done { s with
      mem := Memory.write s.mem a.toNat b
      raced := if s.busy then (a.toNat, Memory.read s.mem a.toNat) :: s.raced else s.raced }
  else .stop .hostStoreOutsideSource

/-- One scheduled move. -/
def moveTurn (m : Move) (s : State) : Turn :=
  match m with
  | .bus op => busTurn op s
  | .busWithBlock op => busBlockTurn op s
  | .block => blockTurn s
  | .accept => .done s.acceptEvent
  | .hostStore a b => hostStoreTurn a b s
  | .reset _ => .done s.resetBlock

/-- With nothing scheduled the block decodes, then the transport takes what is offered, then all is idle (70 R241, 60 R212). -/
def idleTurn (s : State) : Turn := if s.decoding then blockTurn s else .done s.acceptEvent

/-- What the next step does (log 5). -/
def turn (s : State) : Turn :=
  match s.schedule with
  | [] => idleTurn s
  | m :: rest => moveTurn m { s with schedule := rest }

/-- The block idle, its command in progress, if any, forgotten: where a command is placed for the next step. -/
def State.quiesce (s : State) : State :=
  if s.busy then
    { s.setBusy false with
      current := none, iter := none, rle := none, pending := [], raised := 0, cleared := 0, raced := [] }
  else s

/-- A command word placed where the next step dispatches it: the host's next transaction writes it to CMD. -/
def placeCommand (d : Word) (s : State) : State :=
  { s.quiesce with schedule := wr .cmd d :: s.schedule }

/-- An RLE decoder about to fetch its first token at address 0, for a 16 by 1 tile. -/
def freshRle (s : State) : Rle where
  tileW := 16
  tileH := 1
  visW := 16
  visH := 1
  tp := 0
  p := 0
  runIdx := 0
  runLeft := 0
  keys := s.draws

/-- The RLE decoder that fetches a placed token: the one in progress, if its next token is one it will fetch from memory
that exists and that nothing has raced with, else a fresh one. -/
def placedRle (s : State) : Rle :=
  match s.rle with
  | some r => if !r.finished && s.inSource r.tp && s.raced.isEmpty then r else freshRle s
  | none => freshRle s

/-- A token byte placed where the next step fetches it: at the token pointer of a BLITRLE in progress (log 12). -/
def placeToken (t : Byte) (s : State) : State :=
  { (s.setBusy true).setWinOpen true with
    current := some (.blitRle false false)
    iter := none
    rle := some (placedRle s)
    mem := Memory.write s.mem (placedRle s).tp.toNat t
    raced := []
    draws := max s.draws ((placedRle s).keys + (placedRle s).budget)
    schedule := .block :: s.schedule }

end Sys2Proof.Machine
end

