-- ==== Sys2Proof/Machine/Step.lean ====
section
/-! DEFINITION. One step of the machine: the next move, which may run one instruction. -/

namespace Sys2Proof.Machine

open Sys2Proof

/-- What a turn comes to. -/
def finishTurn : Turn → Host.Outcome State Fault Refusal
  | .run i s => exec i s
  | .done s => .next s
  | .stop f => .fault f

/-- One step (Turn.lean says which agent moves). -/
def step (s : State) : Host.Outcome State Fault Refusal := finishTurn (turn s)

/-- `s` with the instruction word `w` of `nbits` bits placed so that the very next step runs it: a token of 8 bits at the
token pointer of an RLE decoder, any other word as the host's next write to CMD (log 12). -/
def State.withFetchWord (s : State) (nbits w : Nat) : State :=
  match nbits with
  | 8 => placeToken (BitVec.ofNat 8 w) s
  | _ => placeCommand (BitVec.ofNat 32 w) s

end Sys2Proof.Machine
end

