-- ==== Sys2Proof/Safety.lean ====
section
/-! DEFINITION. The terms claims are stated in: the invariants of the block (from spec/10_state.md and 20_memory.md), the
observation of a run (70_reset_and_hazards.md R242), and the decoders of 42_decoders.md as lists of colors (R140). -/

namespace Sys2Proof.Machine

open Sys2Proof

/-- The reserved bits of STATUS, 7:2 and 31:19, read 0 (10_state.md R28). -/
abbrev State.ReservedClear (s : State) : Prop := s.status &&& ~~~(busyMask ||| winOpenMask ||| stickyMask) = 0

/-- Source memory is in canonical form and lists no byte that does not exist (20_memory.md R50). -/
abbrev State.MemoryOk (s : State) : Prop := Memory.wf s.mem = true ∧ ∀ c ∈ s.mem, c.1 < s.params.srcSize

/-- The panel size is the native one, swapped for an odd rotation (40_control.md R105, 10_state.md R36). -/
abbrev State.PanelOk (s : State) : Prop :=
  s.orient.panelW = (if s.orient.rot.toNat % 2 = 0 then s.params.nativeW else s.params.nativeH) ∧
    s.orient.panelH = (if s.orient.rot.toNat % 2 = 0 then s.params.nativeH else s.params.nativeW)

/-- The clamped size lies in the stored one, and neither is empty (43_blit.md R170). -/
abbrev ClampOk (w h visW visH : Nat) : Prop := 1 ≤ visW ∧ visW ≤ w ∧ 1 ≤ visH ∧ visH ≤ h ∧ w < 2 ^ 16 ∧ h < 2 ^ 16

/-- The iterator's position is a pixel of the clamped tile, or the end of it (42_decoders.md R140). -/
abbrev Iter.Ok (it : Iter) : Prop :=
  ClampOk it.tileW it.tileH it.visW it.visH ∧ it.i < it.visW ∧ it.j ≤ it.visH ∧ (it.j = it.visH → it.i = 0)

/-- The decoded count is within the budget, and no run is left over between two tokens (10_state.md R35). -/
abbrev Rle.Ok (r : Rle) : Prop := ClampOk r.tileW r.tileH r.visW r.visH ∧ r.p ≤ r.budget ∧ r.runLeft = 0

/-- Whether an instruction is a blit. -/
def isBlit : Instr → Bool
  | .blit1 _ _ | .blit4 _ _ | .blitRle _ _ => true
  | .nop | .setrot _ | .window | .pixel | .close | .run _ _ => false

/-- Whether an instruction is BLITRLE. -/
def isBlitRle : Instr → Bool
  | .blitRle _ _ => true
  | .nop | .setrot _ | .window | .pixel | .close | .blit1 _ _ | .blit4 _ _ | .run _ _ => false

/-- An idle block holds no hidden execution state and no raised flag (10_state.md R36). -/
abbrev State.IdleEmpty (s : State) : Prop :=
  s.busy = false →
    s.current = none ∧ s.iter = none ∧ s.rle = none ∧ s.pending = [] ∧ s.raised = 0 ∧ s.cleared = 0 ∧ s.raced = []

/-- A busy block holds the command in progress and has an event or decode work left (10_state.md R29, R33). -/
abbrev State.BusyHolds (s : State) : Prop :=
  s.busy = true → s.current.isSome = true ∧ (s.pending ≠ [] ∨ s.decoding = true)

/-- Decode work belongs to a blit: an iterator to any, the RLE counters to a BLITRLE, and never both (R34, R35). -/
abbrev State.DecodeOk (s : State) : Prop :=
  (∀ it ∈ s.iter, s.rle = none ∧ it.Ok ∧ ∃ i ∈ s.current, isBlit i = true) ∧
    (∀ r ∈ s.rle, s.iter = none ∧ r.Ok ∧ ∃ i ∈ s.current, isBlitRle i = true)

/-- The window is open for the whole of a blit and of a WINDOW or PIXEL (10_state.md R30), whose own `End` comes last. -/
abbrev State.WindowHeld (s : State) : Prop :=
  (∀ i ∈ s.current, isBlit i = true ∨ i = .window ∨ i = .pixel → s.winOpen = true) ∧
    (∀ i ∈ s.current, i = .window ∨ i = .pixel → Event.fin ∉ s.pending) ∧
    (s.decoding = true → Event.fin ∉ s.pending) ∧ Event.fin ∉ s.pending.dropLast

/-- Only flags of step 9 of 60_exceptions.md R203 are raised late (R205). -/
abbrev State.LateOk (s : State) : Prop := s.raised &&& ~~~lateMask = 0 ∧ s.cleared &&& ~~~lateMask = 0

/-- The execution state is coherent: what holds of the block between any two steps. -/
structure State.Coherent (s : State) : Prop where
  idle : s.IdleEmpty
  busyHolds : s.BusyHolds
  decode : s.DecodeOk
  window : s.WindowHeld
  late : s.LateOk

/-- What a run of a host program is observed by (70_reset_and_hazards.md R242). -/
structure Observation where
  events : List Event
  operands : OperandFile
  pal : Vector (Marked 16) 16
  offx : Vector (Marked 16) 4
  offy : Vector (Marked 16) 4
  orient : Orientation
  status : Word
  deriving DecidableEq, Repr

/-- Whether a move to come keeps a run from having ended (70_reset_and_hazards.md R242): a register-bus transaction, or a
reset, which changes the final registers (log 21). A host write to source memory is no transaction, and an observation says
nothing about source memory. -/
def Move.continuesRun : Move → Bool
  | .bus _ | .busWithBlock _ | .reset _ => true
  | .block | .accept | .hostStore _ _ => false

/-- The host has issued its last transaction (R242). -/
def State.hostDone (s : State) : Bool := s.schedule.all fun m => !m.continuesRun

/-- The observation of a run that has ended in `s` (R242): none while the host has a transaction to issue or BUSY is 1, for the
run has not ended, and none if the model fault occurred. -/
def State.observation (s : State) : Option Observation :=
  if s.hostDone && !s.busy && s.modelFault.isNone then
    some
      { events := s.accepted, operands := s.operands, pal := s.pal, offx := s.offx, offy := s.offy, orient := s.orient
        status := s.status }
  else none

/-- The outcome of `k` steps. -/
def runSteps (k : Nat) (s : State) : Host.Outcome State Fault Refusal := Host.Core.run Sys2Proof.core k s

/-- The iterator at the `n`-th destination pixel, row-major (42_decoders.md R140). -/
def Iter.at (it : Iter) (n : Nat) : Iter := { it with i := n % it.visW, j := n / it.visW }

/-- The color a palette index selects (40_control.md R106). -/
def State.color (s : State) (k : BitVec 4) : Half := (s.palEntry k).value

/-- `Decode1` as a list (42_decoders.md R144). -/
def State.monoColors (s : State) (it : Iter) : List Half :=
  (List.range (it.visW * it.visH)).map fun n =>
    s.color (monoIndex (s.readSource (it.at n).monoAddr (it.at n).key) (it.at n).i)

/-- `Decode4` as a list (42_decoders.md R148). -/
def State.indexedColors (s : State) (fh fv : Bool) (it : Iter) : List Half :=
  (List.range (it.visW * it.visH)).map fun n =>
    s.color (indexedIndex (s.readSource ((it.at n).indexedAddr fh fv) (it.at n).key))

/-- The palette indices of the stored tile's pixels from `r.p` on, decoded from at most `fuel` tokens (42_decoders.md R153,
R154): each token contributes its run, cut at the budget, and no token is read once the budget is met (R155). -/
def State.tokenIndices (s : State) : Nat → Rle → List (BitVec 4)
  | 0, _ => []
  | fuel + 1, r =>
    if r.budget ≤ r.p then []
    else
      let t := s.tokenByte r
      let k := min ((t.extractLsb' 0 4).toNat + 1) (r.budget - r.p)
      List.replicate k (t.extractLsb' 4 4) ++ s.tokenIndices fuel { r with tp := r.tp + 1, p := r.p + k }

/-- Whether tile pixel `n` of a tile `w` wide lies in its top-left `visW` by `visH` part (42_decoders.md R157). -/
def inClamp (w visW visH n : Nat) : Bool := decide (n % w < visW) && decide (n / w < visH)

/-- `DecodeRLE` as a list (42_decoders.md R153, R157): the stored tile's pixels, those outside the clamped part left out. -/
def State.rleColors (s : State) (r : Rle) : List Half :=
  (((s.tokenIndices r.budget r).zipIdx).filter fun kn => inClamp r.tileW r.visW r.visH kn.2).map fun kn => s.color kn.1

/-- The first address of the stride form (42_decoders.md R143). -/
def strideStart (tb : Word) (w h iw : Nat) (fh fv : Bool) : Word :=
  tb + (if fv then BitVec.ofNat 32 (h - 1) * BitVec.ofNat 32 iw else 0) + (if fh then BitVec.ofNat 32 (w - 1) else 0)

/-- `itXAdder` (R143): the stride after each pixel. -/
def itXAdder (fh : Bool) : Word := if fh then -1 else 1

/-- `itYAdder` (R143): the further stride after each row of `visW` pixels. -/
def itYAdder (iw visW : Nat) (fh fv : Bool) : Word :=
  (if fv then -BitVec.ofNat 32 iw else BitVec.ofNat 32 iw) - BitVec.ofNat 32 visW * itXAdder fh

/-- The address the stride form reads `n` pixels after `p`, at column `i` of a row of `visW` (R143). -/
def strideWalk (iw visW : Nat) (fh fv : Bool) : Nat → Nat → Word → Word
  | 0, _, p => p
  | n + 1, i, p =>
    if i + 1 < visW then strideWalk iw visW fh fv n (i + 1) (p + itXAdder fh)
    else strideWalk iw visW fh fv n 0 (p + itXAdder fh + itYAdder iw visW fh fv)

/-- The RLE decoder of a BLITRLE clamped to `w` by `h`, once its table lookup is made (42_decoders.md R150). -/
def State.firstRle (s : State) (w h : Nat) : Rle where
  tileW := s.operands.tileW.value.toNat
  tileH := s.operands.tileH.value.toNat
  visW := w
  visH := h
  tp := s.operands.srcBase.value + (s.tokenOffset s.draws).setWidth 32
  p := 0
  runIdx := 0
  runLeft := 0
  keys := s.draws + 4

/-- The bits of a command word that say which instruction it is: the match bits of 30_encoding.md R74, and the operand
fields the command reads (R76). -/
def careMask : Instr → Word
  | .setrot _ => 0xFFFFFFCF#32
  | .blit1 _ _ | .blit4 _ _ | .blitRle _ _ => 0xFFFFFCFF#32
  | .nop | .window | .pixel | .close | .run _ _ => 0xFFFFFCCF#32

/-- The model fault a command leaves that reads the parameter registers `os` in order, as claims say it: the model's record of
60_exceptions.md R213 (log 3). `Obligations.UnwrittenReadsAreRecorded` ties it to the reads of the commands. -/
def State.faultAfter (s : State) (os : List Operand) : Option RegId :=
  s.modelFault.or (firstUnwritten (os.map fun o => (.operand o, s.operands.written o)))

/-- The flags of step 9 of 60_exceptions.md R203 that the block's next decode action raises. -/
def State.raisesNow (s : State) : Word :=
  match blockTurn { s with raised := 0 } with
  | .run _ t => t.raised
  | .done t => t.raised
  | .stop _ => 0

/-- The refusals every command shares (40_control.md R100, R103): a word with opcode `op` written to CMD while BUSY sets
ERR_BUSY and nothing else, and one with a reserved bit set sets ERR_ILLEGAL and nothing else. -/
def CommandRefusals (op : Nat) : Prop :=
  ∀ (s : State) (d : Word) (rest : List Move), s.schedule = .bus (.write 0 d) :: rest → (d.extractLsb' 0 4).toNat = op →
    (s.busy = true → step s = .next { s with schedule := rest, status := s.status ||| 0x200#32 }) ∧
      (s.busy = false → d &&& 0xFFFFFCC0#32 ≠ 0 →
        step s = .next { s with schedule := rest, status := s.status ||| 0x100#32 })

/-- The same state but for sticky flags and the data of the last bus read. -/
structure SameButReports (s t : State) : Prop where
  same : t = { s with status := t.status, readData := t.readData }
  busy : t.busy = s.busy
  winOpen : t.winOpen = s.winOpen

end Sys2Proof.Machine
end

