-- ==== Sys2Proof/Certificates/Slice0/Obligations.lean ====
section
/-! DEFINITION. The statements for the provers, from the numbered rules of spec/. OBLIGATIONS.json lists them. -/

open Sys2Proof Sys2Proof.Machine

/-! ## Encodings -/

/-- 30_encoding.md R73 to R76, R81: decoding an encoded instruction gives it back; encoding a decoded command word gives back
every bit that is not don't-care; encoding a decoded token gives back the token. -/
def Obligations.EncodingsAgreeBothWays : Prop :=
  (∀ i : Instr, decode (encode i) = .ok i) ∧
    (∀ (d : Word) (i : Instr), decodeCommand d = .ok i →
      ∃ w, encode i = .command w ∧ w &&& careMask i = d &&& careMask i ∧ w &&& ~~~careMask i = 0) ∧
    (∀ t : Byte, encode (decodeToken t) = .token t)

/-- R74, R90: a command word is one of the eight rows, told by `mask` and `match`, or illegal; every byte is a token. -/
def Obligations.CommandWordsMatchOneRow : Prop :=
  (∀ d : Word,
    let m := d &&& 0xFFFFFCCF#32
    if m = 0 then decodeCommand d = .ok .nop
    else if m = 1 then decodeCommand d = .ok (.setrot (d.extractLsb' 8 2))
    else if m = 2 then decodeCommand d = .ok .window
    else if m = 3 then decodeCommand d = .ok .pixel
    else if m = 4 then decodeCommand d = .ok .close
    else if m = 5 then decodeCommand d = .ok (.blit1 (d.getLsbD 4) (d.getLsbD 5))
    else if m = 6 then decodeCommand d = .ok (.blit4 (d.getLsbD 4) (d.getLsbD 5))
    else if m = 7 then decodeCommand d = .ok (.blitRle (d.getLsbD 4) (d.getLsbD 5))
    else ∃ e, decodeCommand d = .error e) ∧
  (∀ t : Byte, decode (.token t) = .ok (.run (t.extractLsb' 4 4) (t.extractLsb' 0 4)))

/-- Words written out from R73, R74, R81 and R89 decode to the instructions they stand for. -/
def Obligations.SampleWordsDecode : Prop :=
  decodeCommand 0b00000000000000000000000000000000#32 = .ok .nop ∧
    decodeCommand 0b00000000000000000000001000000001#32 = .ok (.setrot 2) ∧
    decodeCommand 0b00000000000000000000000000000010#32 = .ok .window ∧
    decodeCommand 0b00000000000000000000000000000011#32 = .ok .pixel ∧
    decodeCommand 0b00000000000000000000000000000100#32 = .ok .close ∧
    decodeCommand 0b00000000000000000000000000010101#32 = .ok (.blit1 true false) ∧
    decodeCommand 0b00000000000000000000000000100110#32 = .ok (.blit4 false true) ∧
    decodeCommand 0b00000000000000000000000000110111#32 = .ok (.blitRle true true) ∧
    decodeToken 0b00101111#8 = .run 2 15

/-! ## Reset -/

/-- 10_state.md R36: what reset leaves. A register R36 calls unspecified is stated by its clear mark alone. -/
def Obligations.ResetLeavesItsValues : Prop :=
  let s := State.reset
  s.status = 0 ∧ s.orient = { rot := 0, xoff := 0, yoff := 0, panelW := s.params.nativeW, panelH := s.params.nativeH } ∧
    (∀ r : BitVec 2, s.offxEntry r = ⟨0, true⟩ ∧ s.offyEntry r = ⟨0, true⟩) ∧
    (∀ o : Operand, s.operands.written o = false) ∧ (∀ k : BitVec 4, (s.palEntry k).written = false) ∧
    s.current = none ∧ s.iter = none ∧ s.rle = none ∧ s.pending = []

/-- 70_reset_and_hazards.md R230: reset at any point gives every piece of the block's state its value of R36, discards the
pending events without an `End`, keeps the accepted ones, and beats a bus transaction of the same step. -/
def Obligations.ResetAbandonsTheCommand : Prop :=
  ∀ (s : State) (along : Option BusOp) (rest : List Move), s.schedule = .reset along :: rest →
    ∃ t, step s = .next t ∧ t.status = 0 ∧
      t.orient = { rot := 0, xoff := 0, yoff := 0, panelW := s.params.nativeW, panelH := s.params.nativeH } ∧
      (∀ r : BitVec 2, t.offxEntry r = ⟨0, true⟩ ∧ t.offyEntry r = ⟨0, true⟩) ∧
      (∀ o : Operand, t.operands.written o = false) ∧ (∀ k : BitVec 4, (t.palEntry k).written = false) ∧
      t.current = none ∧ t.iter = none ∧ t.rle = none ∧ t.pending = [] ∧ t.accepted = s.accepted ∧ t.mem = s.mem ∧
      t.schedule = rest

/-- The invariants below hold right after reset. -/
def Obligations.ResetMeetsTheInvariants : Prop :=
  State.reset.Coherent ∧ State.reset.ReservedClear ∧ State.reset.MemoryOk ∧ State.reset.PanelOk ∧
    State.reset.params.WellFormed

/-! ## Invariants every step keeps -/

/-- 10_state.md R29, R30, R33 to R35: an idle block holds nothing of a command; a busy one holds the command and has an event
or decode work left; decode work belongs to a blit and its position is inside the clamped tile; the window is open throughout
a blit, and a command's `End` comes last. -/
def Obligations.StepKeepsTheBlockCoherent : Prop :=
  ∀ s t : State, s.Coherent → step s = .next t → t.Coherent

/-- 10_state.md R28: the reserved bits of STATUS read 0, and no flag but those of step 9 is ever raised late. -/
def Obligations.StepKeepsReservedStatusBitsZero : Prop :=
  ∀ s t : State, s.ReservedClear → s.LateOk → step s = .next t → t.ReservedClear ∧ t.LateOk

/-- 20_memory.md R50: source memory stays in canonical form and lists only bytes that exist. -/
def Obligations.StepKeepsMemoryCanonical : Prop :=
  ∀ s t : State, s.MemoryOk → step s = .next t → t.MemoryOk

/-- 40_control.md R105 with 10_state.md R27: the panel size is always the native one, swapped for an odd rotation, and the
parameters never change. -/
def Obligations.StepKeepsPanelSizeAndParameters : Prop :=
  ∀ s t : State, s.PanelOk → step s = .next t → t.PanelOk ∧ t.params = s.params

/-! ## Rules of the whole machine -/

/-- 10_state.md R27: only a SETROT that runs, or a reset, changes the orientation state. -/
def Obligations.OnlySetrotAndResetChangeOrientation : Prop :=
  ∀ s t : State, step s = .next t → (∀ rot u, turn s ≠ .run (.setrot rot) u) →
    (∀ along rest, s.schedule ≠ .reset along :: rest) → t.orient = s.orient

/-- 10_state.md R24, and R33 for the other registers: nothing but a reset changes the palette, an operand register, an offset
or the orientation while BUSY is 1. -/
def Obligations.BusyFreezesPaletteAndOperands : Prop :=
  ∀ s t : State, s.busy = true → step s = .next t → (∀ along rest, s.schedule ≠ .reset along :: rest) →
    t.pal = s.pal ∧ t.operands = s.operands ∧ t.offx = s.offx ∧ t.offy = s.offy ∧ t.orient = s.orient

/-- 20_memory.md R50, 00_scope.md R11: only the host writes source memory, and a host write changes one byte. -/
def Obligations.OnlyTheHostWritesSourceMemory : Prop :=
  ∀ s t : State, step s = .next t →
    match s.schedule with
    | .hostStore a _ :: _ => ∀ x, x ≠ a.toNat → Memory.read t.mem x = Memory.read s.mem x
    | _ => t.mem = s.mem

/-- 20_memory.md R61: the accepted stream only grows, and unless a reset discards them the pending events stay, in their
order, in front of any new one. -/
def Obligations.EventsAreNeverLostOrReordered : Prop :=
  ∀ s t : State, step s = .next t →
    s.accepted <+: t.accepted ∧
      ((∀ along rest, s.schedule ≠ .reset along :: rest) →
        ∃ new, t.accepted ++ t.pending = s.accepted ++ s.pending ++ new)

/-- 10_state.md R31: a sticky bit that is 1 stays 1 unless the step is a STATUS write with a 1 in that bit, or a reset; and
a STATUS write leaves every bit it has a 0 in as it was. -/
def Obligations.StickyFlagsStayUntilCleared : Prop :=
  (∀ (s t : State) (n : Nat), 8 ≤ n → n ≤ 18 → s.status.getLsbD n = true → step s = .next t →
    (∀ along rest, s.schedule ≠ .reset along :: rest) →
    (∀ d rest, d.getLsbD n = true → s.schedule ≠ .bus (.write 1 d) :: rest ∧
      s.schedule ≠ .busWithBlock (.write 1 d) :: rest) →
    t.status.getLsbD n = true) ∧
  (∀ (s : State) (d : Word) (rest : List Move), s.schedule = .bus (.write 1 d) :: rest →
    ∃ t, step s = .next t ∧ ∀ n, d.getLsbD n = false → t.status.getLsbD n = s.status.getLsbD n)

/-- 60_exceptions.md R213: once the model fault is recorded no step clears it, not even a reset. -/
def Obligations.ModelFaultIsNeverCleared : Prop :=
  ∀ (s t : State) (r : RegId), s.modelFault = some r → step s = .next t → t.modelFault = some r

/-- 10_state.md R22: a written mark stays set until a reset. -/
def Obligations.WrittenMarksStayUntilReset : Prop :=
  ∀ s t : State, step s = .next t → (∀ along rest, s.schedule ≠ .reset along :: rest) →
    (∀ o, s.operands.written o = true → t.operands.written o = true) ∧
      (∀ k, (s.palEntry k).written = true → (t.palEntry k).written = true) ∧
      (∀ r, (s.offxEntry r).written = true → (t.offxEntry r).written = true) ∧
      (∀ r, (s.offyEntry r).written = true → (t.offyEntry r).written = true)

/-- 60_exceptions.md R200: the block never stops. No step is refused, and the one fault is the host's write to a byte of
source memory that does not exist (the model's choice, log 7). -/
def Obligations.TheBlockNeverStops : Prop :=
  ∀ s : State, (∀ r, step s ≠ .refused r) ∧
    ∀ f, step s = .fault f → ∃ a b rest, s.schedule = .hostStore a b :: rest ∧ s.params.srcSize ≤ a.toNat

/-- 60_exceptions.md R204: two states that differ in sticky flags alone (and in the data of the last bus read) step to two
such states, so no event depends on a flag. -/
def Obligations.ReportFlagsChangeNoEvent : Prop :=
  ∀ s t s' : State, SameButReports s t → step s = .next s' → ∃ t', step t = .next t' ∧ SameButReports s' t'

/-! ## The register bus -/

/-- 40_control.md R100: a RegWrite, in the order of its checks. -/
def Obligations.RegWriteFollowsItsChecks : Prop :=
  ∀ (s : State) (a : BitVec 6) (d : Word) (rest : List Move), s.schedule = .bus (.write a d) :: rest →
    if a.toNat = 0x13 ∨ (0x1C ≤ a.toNat ∧ a.toNat ≤ 0x1F) ∨ 0x30 ≤ a.toNat ∨ (0x0E ≤ a.toNat ∧ a.toNat ≤ 0x12) then
      step s = .next { s with schedule := rest, status := s.status ||| 0x100#32 }
    else if a.toNat = 0x01 then
      step s = .next ({ s with schedule := rest }.statusWrite d)
    else if s.busy then
      step s = .next { s with schedule := rest, status := s.status ||| 0x200#32 }
    else if a.toNat = 0x00 then
      step s =
        match decodeCommand d with
        | .ok i => exec i { s with schedule := rest }
        | .error _ => .next { s with schedule := rest, status := s.status ||| 0x100#32 }
    else
      ∃ t, step s = .next t ∧
        t = { s with schedule := rest, operands := t.operands, pal := t.pal, offx := t.offx, offy := t.offy } ∧
        (∀ o : Operand,
          if (RegId.operand o).number = a then
            t.operands.written o = true ∧ (t.operands.value o).toNat = d.toNat % 2 ^ o.width
          else t.operands.written o = s.operands.written o ∧ t.operands.value o = s.operands.value o) ∧
        (∀ r : BitVec 2, t.offxEntry r =
          if (RegId.offx r).number = a then ⟨d.setWidth 16, true⟩ else s.offxEntry r) ∧
        (∀ r : BitVec 2, t.offyEntry r =
          if (RegId.offy r).number = a then ⟨d.setWidth 16, true⟩ else s.offyEntry r) ∧
        ∀ k : BitVec 4, t.palEntry k =
          if (RegId.pal k).number = a then ⟨d.setWidth 16, true⟩ else s.palEntry k

/-- 40_control.md R102: a STATUS write clears exactly the sticky bits it has a 1 in, while BUSY too, and changes nothing else
that the spec names; a flag the block's action of the same step sets is cleared first and set second. -/
def Obligations.StatusWriteClearsExactlyItsBits : Prop :=
  (∀ (s : State) (d : Word) (rest : List Move), s.schedule = .bus (.write 1 d) :: rest →
    ∃ t, step s = .next t ∧ t = { s with schedule := rest, status := t.status, cleared := t.cleared } ∧
      ∀ n, t.status.getLsbD n = (s.status.getLsbD n && !(decide (8 ≤ n) && decide (n ≤ 18) && d.getLsbD n))) ∧
  (∀ (s t : State) (d : Word) (rest : List Move) (n : Nat), s.busy = true →
    s.schedule = .busWithBlock (.write 1 d) :: rest → step s = .next t → 13 ≤ n → n ≤ 15 → d.getLsbD n = true →
    ({ s with schedule := rest }.statusWrite d).raisesNow.getLsbD n = true → t.status.getLsbD n = true)

/-- 30_encoding.md R71, 40_control.md R101: the register map, and the data of a RegRead, register by register, at any time and
with no effect on the block's registers, execution state or events. A register without its mark gives some value of its width. STATUS shows its own bits and may show
flags raised by the command in progress (60_exceptions.md R205). -/
def Obligations.RegReadReturnsTheRegister : Prop :=
  (∀ a : BitVec 6, (RegId.ofNumber a).number = a) ∧
  (∀ a : BitVec 6, (a.toNat = 0x13 ∨ (0x1C ≤ a.toNat ∧ a.toNat ≤ 0x1F) ∨ 0x30 ≤ a.toNat) →
    RegId.ofNumber a = .reserved a) ∧
  [RegId.cmd, .status, .rot, .xoff, .yoff, .panelW, .panelH].map RegId.number =
    [0x00, 0x01, 0x0E, 0x0F, 0x10, 0x11, 0x12] ∧
  [Operand.dstX, .dstY, .tileW, .tileH, .imgW, .imgH, .winX1, .winY1, .srcBase, .tableBase, .sectionId, .color].map
      (fun o => (RegId.operand o).number) =
    [0x02, 0x03, 0x04, 0x05, 0x06, 0x07, 0x08, 0x09, 0x0A, 0x0B, 0x0C, 0x0D] ∧
  (∀ r : BitVec 2, (RegId.offx r).number.toNat = 0x14 + r.toNat ∧ (RegId.offy r).number.toNat = 0x18 + r.toNat) ∧
  (∀ k : BitVec 4, (RegId.pal k).number.toNat = 0x20 + k.toNat) ∧
  ∀ (s : State) (a : BitVec 6) (rest : List Move), s.schedule = .bus (.read a) :: rest →
    ∃ t, step s = .next t ∧
      t = { s with schedule := rest, status := t.status, readData := t.readData, draws := t.draws } ∧
      match RegId.ofNumber a with
      | .cmd => t.readData = 0 ∧ t.status = s.status
      | .status => t.readData = t.status ∧ s.status &&& ~~~t.status = 0 ∧ t.status &&& ~~~(s.status ||| s.raised) = 0
      | .reserved _ => t.readData = 0 ∧ t.status = s.status
      | .operand o => t.status = s.status ∧
          if s.operands.written o then t.readData = s.operands.value o else t.readData.toNat < 2 ^ o.width
      | .pal k => t.status = s.status ∧
          if (s.palEntry k).written then t.readData = (s.palEntry k).value.setWidth 32 else t.readData.toNat < 2 ^ 16
      | .rot => t.readData = s.orient.rot.setWidth 32 ∧ t.status = s.status
      | .xoff => t.readData = s.orient.xoff.setWidth 32 ∧ t.status = s.status
      | .yoff => t.readData = s.orient.yoff.setWidth 32 ∧ t.status = s.status
      | .panelW => t.readData = s.orient.panelW.setWidth 32 ∧ t.status = s.status
      | .panelH => t.readData = s.orient.panelH.setWidth 32 ∧ t.status = s.status
      | .offx r => t.readData = (s.offxEntry r).value.setWidth 32 ∧ t.status = s.status
      | .offy r => t.readData = (s.offyEntry r).value.setWidth 32 ∧ t.status = s.status

/-- 40_control.md R103, 42_decoders.md R153: a step runs the decoded instruction. A command word written to CMD of an idle
block runs in the state that has consumed the write; a token is fetched at `tp`, which moves past it, and runs. The
key of the token's read is the model's (log 1). -/
def Obligations.StepRunsTheDecodedInstruction : Prop :=
  (∀ (s : State) (d : Word) (i : Instr) (rest : List Move), s.schedule = .bus (.write 0 d) :: rest → s.busy = false →
    decodeCommand d = .ok i → step s = exec i { s with schedule := rest }) ∧
  (∀ (s : State) (r : Rle) (rest : List Move), s.schedule = .block :: rest → s.rle = some r → r.p < r.tileW * r.tileH →
    step s = exec (decodeToken (s.readSource r.tp (r.keys + r.p)))
      { s with
        schedule := rest
        rle := some { r with tp := r.tp + 1 }
        raised := if r.tp.toNat < s.params.srcSize then s.raised else s.raised ||| 0x8000#32 })

/-- 40_control.md R107, 30_encoding.md R75: an illegal word sets ERR_ILLEGAL and changes nothing else; while BUSY it gets
ERR_BUSY instead. -/
def Obligations.IllegalWordsAreRefused : Prop :=
  ∀ (s : State) (d : Word) (rest : List Move), s.schedule = .bus (.write 0 d) :: rest →
    (8 ≤ (d.extractLsb' 0 4).toNat ∨ d.extractLsb' 10 22 ≠ 0 ∨ d.extractLsb' 6 2 ≠ 0) →
    step s = .next { s with
      schedule := rest, status := s.status ||| (if s.busy then 0x200#32 else 0x100#32) }

/-! ## Control, window and pixel commands -/

/-- 40_control.md R104: NOP changes nothing. -/
def Obligations.NopChangesNothing : Prop :=
  CommandRefusals 0 ∧ ∀ s : State, exec .nop s = .next s

/-- 40_control.md R105: SETROT. -/
def Obligations.SetrotLoadsTheOrientation : Prop :=
  CommandRefusals 1 ∧ ∀ (s : State) (r : BitVec 2),
    (s.winOpen = true → exec (.setrot r) s = .next { s with status := s.status ||| 0x800#32 }) ∧
    (s.winOpen = false → ∃ t, exec (.setrot r) s = .next t ∧
      t = { s with orient := t.orient, modelFault := t.modelFault } ∧
      t.orient.rot = r ∧ t.orient.xoff = (s.offxEntry r).value ∧ t.orient.yoff = (s.offyEntry r).value ∧
      (if r.toNat % 2 = 0 then t.orient.panelW = s.params.nativeW ∧ t.orient.panelH = s.params.nativeH
        else t.orient.panelW = s.params.nativeH ∧ t.orient.panelH = s.params.nativeW) ∧
      ((s.offxEntry r).written = true → (s.offyEntry r).written = true → t.modelFault = s.modelFault))

/-- 41_window_pixel.md R121, R122, R126 with 30_encoding.md R85: WINDOW opens the window, whether or not one is open, and
sends the 11 events of its header, unchecked. The clause on `modelFault` is the model's record of R213, with its order of
reads (log 3), not R121's or R122's. -/
def Obligations.WindowSendsItsHeader : Prop :=
  CommandRefusals 2 ∧ ∀ s : State,
    let xs := s.operands.dstX.value + s.orient.xoff
    let xe := s.operands.winX1.value + s.orient.xoff
    let ys := s.operands.dstY.value + s.orient.yoff
    let ye := s.operands.winY1.value + s.orient.yoff
    exec .window s = .next { s with
      status := s.status ||| 0x3#32
      current := some .window
      pending := s.pending ++
        [.cmd s.params.cmdCaset, .dat (xs.extractLsb' 8 8), .dat (xs.extractLsb' 0 8), .dat (xe.extractLsb' 8 8),
          .dat (xe.extractLsb' 0 8), .cmd s.params.cmdRaset, .dat (ys.extractLsb' 8 8), .dat (ys.extractLsb' 0 8),
          .dat (ye.extractLsb' 8 8), .dat (ye.extractLsb' 0 8), .cmd s.params.cmdRamwr]
      modelFault := s.faultAfter [.dstX, .dstY, .winX1, .winY1] }

/-- 41_window_pixel.md R123: PIXEL sends the high byte, then the low byte of COLOR; without a window it is refused. The clause
on `modelFault` is the model's record of 60_exceptions.md R213 (log 3), not R123's. -/
def Obligations.PixelSendsTheColor : Prop :=
  CommandRefusals 3 ∧ ∀ s : State,
    (s.winOpen = false → exec .pixel s = .next { s with status := s.status ||| 0x400#32 }) ∧
    (s.winOpen = true → exec .pixel s = .next { s with
      status := s.status ||| 0x1#32
      current := some .pixel
      pending := s.pending ++
        [.dat (s.operands.color.value.extractLsb' 8 8), .dat (s.operands.color.value.extractLsb' 0 8)]
      modelFault := s.faultAfter [.color] })

/-- 41_window_pixel.md R124: CLOSE ends the window; without one it does nothing. -/
def Obligations.CloseEndsTheWindow : Prop :=
  CommandRefusals 4 ∧ ∀ s : State,
    (s.winOpen = false → exec .close s = .next s) ∧
    (s.winOpen = true → exec .close s = .next { s with
      status := (s.status &&& ~~~0x2#32) ||| 0x1#32
      current := some .close
      pending := s.pending ++ [.fin] })

/-- 60_exceptions.md R213 as the model records it (log 3): a command's read of parameter registers, `useOperands`, changes the
record alone. It records the first register read whose mark is clear, and nothing where all are written or a fault is recorded
already. `faultAfter`, which the statements about commands use, is that record. -/
def Obligations.UnwrittenReadsAreRecorded : Prop :=
  (∀ (s : State) (os : List Operand), s.useOperands os = { s with modelFault := s.faultAfter os }) ∧
    ∀ (s : State) (before after : List Operand) (o : Operand), (∀ x ∈ before, s.operands.written x = true) →
      (s.useOperands before).modelFault = s.modelFault ∧
        (s.operands.written o = false →
          (s.useOperands (before ++ o :: after)).modelFault = s.modelFault.or (some (.operand o)))

/-! ## Blit commands -/

/-- 43_blit.md R170: the clip, and what it guarantees. -/
def Obligations.ClipKeepsTheTileOnThePanel : Prop :=
  ∀ s : State,
    let x := s.operands.dstX.value.toNat
    let y := s.operands.dstY.value.toNat
    let w := s.operands.tileW.value.toNat
    let h := s.operands.tileH.value.toNat
    if s.orient.panelW.toNat ≤ x ∨ s.orient.panelH.toNat ≤ y ∨ w = 0 ∨ h = 0 then s.clipped = none
    else ∃ w' h', s.clipped = some (w', h') ∧ w' = min w (s.orient.panelW.toNat - x) ∧
      h' = min h (s.orient.panelH.toNat - y) ∧ 1 ≤ w' ∧ w' ≤ w ∧ 1 ≤ h' ∧ h' ≤ h ∧
      x + w' - 1 ≤ s.orient.panelW.toNat - 1 ∧ y + h' - 1 ≤ s.orient.panelH.toNat - 1

/-- 43_blit.md R179: a blit while a window is open is refused with ERR_WINOPEN, and nothing else changes. -/
def Obligations.BlitsNeedNoWindowOpen : Prop :=
  ∀ (s : State) (i : Instr), isBlit i = true → s.winOpen = true →
    exec i s = .next { s with status := s.status ||| 0x800#32 }

/-- 43_blit.md R175: BLIT4 with `IMG_W = 0` is refused with ERR_PARAM, before the clip, so even where it would be dropped.
Nothing else of the block changes (60_exceptions.md R202). That the refused command counts as a read of IMG_W, so that
`modelFault` may name it, is the model's record of R213 (log 3, DEDUCED). -/
def Obligations.Blit4NeedsAnImageWidth : Prop :=
  ∀ (s : State) (fh fv : Bool), s.winOpen = false → s.operands.imgW.value = 0 →
    exec (.blit4 fh fv) s = .next { s with status := s.status ||| 0x1000#32, modelFault := s.faultAfter [.imgW] }

/-- 43_blit.md R171: a blit whose origin is off the panel, or of an empty tile, sets INFO_DROPPED, emits nothing, and sets
neither BUSY nor WIN_OPEN. An ignored flip is reported first (60_exceptions.md R203). The clauses on `modelFault` are the model's
record of R213, with its order of reads (IMG_W first for BLIT4; log 3), not R171's. -/
def Obligations.OffPanelAndEmptyBlitsAreDropped : Prop :=
  ∀ (s : State) (fh fv : Bool), s.winOpen = false →
    (s.orient.panelW ≤ s.operands.dstX.value ∨ s.orient.panelH ≤ s.operands.dstY.value ∨
      s.operands.tileW.value = 0 ∨ s.operands.tileH.value = 0) →
    let flips := if fh || fv then 0x40000#32 else 0#32
    exec (.blit1 fh fv) s = .next { s with
      status := s.status ||| flips ||| 0x10000#32, modelFault := s.faultAfter [.dstX, .dstY, .tileW, .tileH] } ∧
    exec (.blitRle fh fv) s = .next { s with
      status := s.status ||| flips ||| 0x10000#32, modelFault := s.faultAfter [.dstX, .dstY, .tileW, .tileH] } ∧
    (s.operands.imgW.value ≠ 0 → exec (.blit4 fh fv) s = .next { s with
      status := s.status ||| 0x10000#32, modelFault := s.faultAfter [.imgW, .dstX, .dstY, .tileW, .tileH] })

/-- 43_blit.md R173, R174, 42_decoders.md R144, R146: a BLIT1 that is neither refused nor dropped is accepted. The clauses on
`keys` and `draws` are the model's free values (log 1), the one on `modelFault` its record of 60_exceptions.md R213, with its
order of reads (log 3); no rule of the spec says them. -/
def Obligations.Blit1IsAccepted : Prop :=
  CommandRefusals 5 ∧ ∀ (s : State) (fh fv : Bool), s.winOpen = false →
    s.operands.dstX.value < s.orient.panelW → s.operands.dstY.value < s.orient.panelH →
    s.operands.tileW.value ≠ 0 → s.operands.tileH.value ≠ 0 →
    let x := s.operands.dstX.value.toNat
    let y := s.operands.dstY.value.toNat
    let w := s.operands.tileW.value.toNat
    let h := s.operands.tileH.value.toNat
    let w' := min w (s.orient.panelW.toNat - x)
    let h' := min h (s.orient.panelH.toNat - y)
    exec (.blit1 fh fv) s = .next { s with
      status := s.status ||| (if fh || fv then 0x40000#32 else 0) ||| (if w' < w ∨ h' < h then 0x20000#32 else 0) ||| 0x3#32
      current := some (.blit1 fh fv)
      pending := s.pending ++ s.header (BitVec.ofNat 16 x) (BitVec.ofNat 16 y) (BitVec.ofNat 16 (x + w' - 1))
        (BitVec.ofNat 16 (y + h' - 1))
      iter := some
        { tileW := w, tileH := h, visW := w', visH := h', stride := (w + 7) / 8, base := s.operands.srcBase.value
          i := 0, j := 0, keys := s.draws }
      draws := s.draws + w' * h'
      modelFault := s.faultAfter [.dstX, .dstY, .tileW, .tileH, .srcBase] }

/-- 43_blit.md R173, R175, 42_decoders.md R147: a BLIT4 that is neither refused nor dropped is accepted. The clauses on `keys`
and `draws` are the model's free values (log 1), the one on `modelFault` its record of 60_exceptions.md R213, with its order of
reads (log 3); no rule of the spec says them. -/
def Obligations.Blit4IsAccepted : Prop :=
  CommandRefusals 6 ∧ ∀ (s : State) (fh fv : Bool), s.winOpen = false → s.operands.imgW.value ≠ 0 →
    s.operands.dstX.value < s.orient.panelW → s.operands.dstY.value < s.orient.panelH →
    s.operands.tileW.value ≠ 0 → s.operands.tileH.value ≠ 0 →
    let x := s.operands.dstX.value.toNat
    let y := s.operands.dstY.value.toNat
    let w := s.operands.tileW.value.toNat
    let h := s.operands.tileH.value.toNat
    let w' := min w (s.orient.panelW.toNat - x)
    let h' := min h (s.orient.panelH.toNat - y)
    let iw := s.operands.imgW.value.toNat
    let line := s.operands.sectionId.value.toNat * w / iw
    let off := s.operands.sectionId.value.toNat * w % iw + line * h * iw
    exec (.blit4 fh fv) s = .next { s with
      status := s.status ||| (if w' < w ∨ h' < h then 0x20000#32 else 0) ||| 0x3#32
      current := some (.blit4 fh fv)
      pending := s.pending ++ s.header (BitVec.ofNat 16 x) (BitVec.ofNat 16 y) (BitVec.ofNat 16 (x + w' - 1))
        (BitVec.ofNat 16 (y + h' - 1))
      iter := some
        { tileW := w, tileH := h, visW := w', visH := h', stride := iw
          base := BitVec.ofNat 32 (s.operands.srcBase.value.toNat + off)
          i := 0, j := 0, keys := s.draws }
      draws := s.draws + w' * h'
      modelFault := s.faultAfter [.imgW, .dstX, .dstY, .tileW, .tileH, .sectionId, .srcBase] }

/-- 43_blit.md R173, R176, 42_decoders.md R158: a BLITRLE that is neither refused nor dropped is accepted; its table lookup is
the block's next decode action. The clause on `modelFault` is the model's record of 60_exceptions.md R213, with its order of
reads (log 3); no rule of the spec says it. -/
def Obligations.BlitRleIsAccepted : Prop :=
  CommandRefusals 7 ∧ ∀ (s : State) (fh fv : Bool), s.winOpen = false →
    s.operands.dstX.value < s.orient.panelW → s.operands.dstY.value < s.orient.panelH →
    s.operands.tileW.value ≠ 0 → s.operands.tileH.value ≠ 0 →
    let x := s.operands.dstX.value.toNat
    let y := s.operands.dstY.value.toNat
    let w := s.operands.tileW.value.toNat
    let h := s.operands.tileH.value.toNat
    let w' := min w (s.orient.panelW.toNat - x)
    let h' := min h (s.orient.panelH.toNat - y)
    ∃ t, exec (.blitRle fh fv) s = .next t ∧
      t = { s with
        status := s.status ||| (if fh || fv then 0x40000#32 else 0) ||| (if w' < w ∨ h' < h then 0x20000#32 else 0) |||
          0x3#32
        current := some (.blitRle fh fv)
        pending := s.pending ++ s.header (BitVec.ofNat 16 x) (BitVec.ofNat 16 y) (BitVec.ofNat 16 (x + w' - 1))
          (BitVec.ofNat 16 (y + h' - 1))
        iter := t.iter
        draws := t.draws
        modelFault := s.faultAfter [.dstX, .dstY, .tileW, .tileH, .sectionId, .tableBase, .srcBase] } ∧
      ∃ it, t.iter = some it ∧ it.tileW = w ∧ it.tileH = h ∧ it.visW = w' ∧ it.visH = h' ∧
        it.base = s.operands.srcBase.value

/-- 43_blit.md R180: a blit whose rectangle runs 10 columns past the right edge shows exactly `PANEL_W - x` columns, and its
window's last column is the panel's. -/
def Obligations.OverhangingBlitShowsTheRestOfThePanel : Prop :=
  ∀ (s t : State) (i : Instr), isBlit i = true → s.winOpen = false → s.operands.imgW.value ≠ 0 →
    s.operands.dstX.value < s.orient.panelW → s.operands.dstY.value < s.orient.panelH → s.operands.tileH.value ≠ 0 →
    s.operands.dstX.value.toNat + s.operands.tileW.value.toNat = s.orient.panelW.toNat + 10 →
    exec i s = .next t →
    (∃ it, t.iter = some it ∧ it.visW = s.orient.panelW.toNat - s.operands.dstX.value.toNat) ∧
      ∃ y1, t.pending = s.pending ++ s.header s.operands.dstX.value s.operands.dstY.value (s.orient.panelW - 1) y1

/-- No instruction changes an operand register, the palette, the offset table, source memory or the events already accepted,
and only SETROT changes the orientation state (00_scope.md R11, 10_state.md R27, 43_blit.md R178). -/
def Obligations.InstructionsLeaveRegistersAndMemory : Prop :=
  ∀ (i : Instr) (s t : State), exec i s = .next t →
    t.params = s.params ∧ t.operands = s.operands ∧ t.pal = s.pal ∧ t.offx = s.offx ∧ t.offy = s.offy ∧
      ((∀ r, i ≠ .setrot r) → t.orient = s.orient) ∧ (∀ a, Memory.read t.mem a = Memory.read s.mem a) ∧
      t.mem = s.mem ∧ t.raced = s.raced ∧ t.accepted = s.accepted ∧ t.readData = s.readData ∧ t.schedule = s.schedule ∧
      t.raised = s.raised ∧ t.cleared = s.cleared

/-! ## Decode actions -/

/-- 42_decoders.md R144, R145, 20_memory.md R52, R55: one decode action of a BLIT1 emits the next pixel, `PAL[0]` for a 1 bit
and `PAL[1]` for a 0 bit, bits taken MSB first, and the iterator moves on row-major; a read at or above SRC_SIZE is noted. The
key of the read is the model's (log 1), the clause on `modelFault` its record of 60_exceptions.md R213 (log 3). -/
def Obligations.Blit1DecodesMsbFirst : Prop :=
  ∀ (s : State) (rest : List Move) (fh fv : Bool) (it : Iter), s.schedule = .block :: rest →
    s.current = some (.blit1 fh fv) → s.rle = none → s.iter = some it → it.j < it.visH →
    let a := BitVec.ofNat 32 (it.base.toNat + it.j * it.stride + it.i / 8)
    let byte := s.readSource a (it.keys + (it.j * it.visW + it.i))
    let k : BitVec 4 := if byte.toNat / 2 ^ (7 - it.i % 8) % 2 = 1 then 0 else 1
    ∃ t, step s = .next t ∧
      t = { s with schedule := rest, raised := t.raised, iter := t.iter, pending := t.pending, modelFault := t.modelFault } ∧
      t.pending = s.pending ++
        [.dat ((s.palEntry k).value.extractLsb' 8 8), .dat ((s.palEntry k).value.extractLsb' 0 8)] ∧
      t.raised = s.raised ||| (if s.params.srcSize ≤ a.toNat then 0x8000#32 else 0) ∧
      t.modelFault = s.modelFault.or (if (s.palEntry k).written then none else some (.pal k)) ∧
      t.iter = some (if it.i + 1 < it.visW then { it with i := it.i + 1 } else { it with i := 0, j := it.j + 1 })

/-- 42_decoders.md R142, R148, R149, 20_memory.md R52: one decode action of a BLIT4 emits the next pixel from the source pixel
the flips select in the stored tile; the byte's low four bits index the palette, and a byte above 15 is noted as ERR_INDEX.
The key of the read is the model's (log 1), the clause on `modelFault` its record of 60_exceptions.md R213 (log 3). -/
def Obligations.Blit4DecodesTheFlippedTile : Prop :=
  ∀ (s : State) (rest : List Move) (fh fv : Bool) (it : Iter), s.schedule = .block :: rest →
    s.current = some (.blit4 fh fv) → s.rle = none → s.iter = some it → it.j < it.visH →
    let sc := if fh then it.tileW - 1 - it.i else it.i
    let sr := if fv then it.tileH - 1 - it.j else it.j
    let a := BitVec.ofNat 32 (it.base.toNat + sr * it.stride + sc)
    let byte := s.readSource a (it.keys + (it.j * it.visW + it.i))
    let k : BitVec 4 := BitVec.ofNat 4 (byte.toNat % 16)
    ∃ t, step s = .next t ∧
      t = { s with schedule := rest, raised := t.raised, iter := t.iter, pending := t.pending, modelFault := t.modelFault } ∧
      t.pending = s.pending ++
        [.dat ((s.palEntry k).value.extractLsb' 8 8), .dat ((s.palEntry k).value.extractLsb' 0 8)] ∧
      t.raised = s.raised ||| (if s.params.srcSize ≤ a.toNat then 0x8000#32 else 0) |||
        (if 15 < byte.toNat then 0x2000#32 else 0) ∧
      t.modelFault = s.modelFault.or (if (s.palEntry k).written then none else some (.pal k)) ∧
      t.iter = some (if it.i + 1 < it.visW then { it with i := it.i + 1 } else { it with i := 0, j := it.j + 1 })

/-- 42_decoders.md R150, R151, 20_memory.md R52, R54: the table lookup of a BLITRLE, wherever the table lies. Element 0 is the
count; element `S + 1` is read where `S < count` and only there, so an identifier at or beyond the count raises ERR_TILEID, and
ERR_SRC_RANGE is raised for the bytes read at or above SRC_SIZE alone. A byte below SRC_SIZE that the host has not raced with
reads as memory holds it. The keys of the reads are the model's (log 1). -/
def Obligations.TableLookupFindsTheTokens : Prop :=
  (∀ (s : State) (rest : List Move) (fh fv : Bool) (it : Iter), s.schedule = .block :: rest →
    s.current = some (.blitRle fh fv) → s.rle = none → s.iter = some it →
    let t0 := s.operands.tableBase.value
    let sec := s.operands.sectionId.value.toNat
    let el := BitVec.ofNat 32 (t0.toNat + 2 * (sec + 1))
    let be16 := fun (a : Word) (key : Nat) =>
      256 * (s.readSource a key).toNat + (s.readSource (BitVec.ofNat 32 (a.toNat + 1)) (key + 1)).toNat
    let outside := fun a : Word =>
      decide (s.params.srcSize ≤ a.toNat ∨ s.params.srcSize ≤ (BitVec.ofNat 32 (a.toNat + 1)).toNat)
    let listed := decide (sec < be16 t0 it.keys)
    ∃ t, step s = .next t ∧
      t = { s with schedule := rest, raised := t.raised, iter := none, rle := t.rle } ∧
      t.raised = s.raised ||| (if outside t0 || (listed && outside el) then 0x8000#32 else 0) |||
        (if listed then 0 else 0x4000#32) ∧
      ∃ r, t.rle = some r ∧ r.tp = BitVec.ofNat 32 (it.base.toNat + if listed then be16 el (it.keys + 2) else 0) ∧
        r.p = 0 ∧ r.tileW = it.tileW ∧ r.tileH = it.tileH ∧ r.visW = it.visW ∧ r.visH = it.visH ∧ r.runLeft = 0) ∧
  ∀ (s : State) (a : Word) (key : Nat), a.toNat < s.params.srcSize → (∀ c ∈ s.raced, c.1 ≠ a.toNat) →
    s.readSource a key = Memory.read s.mem a.toNat

/-- 42_decoders.md R152, R154, R157: RUN. The run is `len + 1` pixels cut at the budget; those inside the clamped tile are
emitted, in order, and all are counted. Without an RLE decoder in progress RUN has no meaning (log 13). The clause on
`modelFault` is the model's record of 60_exceptions.md R213 (log 3). -/
def Obligations.RunEmitsItsVisiblePixels : Prop :=
  (∀ (s : State) (idx len : BitVec 4), s.rle = none → exec (.run idx len) s = .refused .noTokenStream) ∧
  ∀ (s : State) (r : Rle) (idx len : BitVec 4), s.rle = some r →
    let n := r.tileW * r.tileH
    let k := min (len.toNat + 1) (n - r.p)
    let seen := fun q : Nat => decide ((r.p + q) % r.tileW < r.visW ∧ (r.p + q) / r.tileW < r.visH)
    let c := (s.palEntry idx).value
    ∃ t, exec (.run idx len) s = .next t ∧
      t = { s with rle := t.rle, pending := t.pending, modelFault := t.modelFault } ∧
      t.rle = some { r with p := r.p + k, runIdx := idx, runLeft := 0 } ∧
      t.pending = s.pending ++
        ((List.range k).filter seen).flatMap (fun _ => [.dat (c.extractLsb' 8 8), .dat (c.extractLsb' 0 8)]) ∧
      t.modelFault =
        if (List.range k).any seen && !(s.palEntry idx).written then s.modelFault.or (some (.pal idx)) else s.modelFault

/-- 42_decoders.md R155: once `p = N` the RLE decoder reads no token; it emits `End`, and so does a pixel decoder after its
last row (43_blit.md R173). -/
def Obligations.FinishedDecoderEmitsEnd : Prop :=
  (∀ (s : State) (rest : List Move) (r : Rle), s.schedule = .block :: rest → s.rle = some r → r.tileW * r.tileH ≤ r.p →
    step s = .next { s with schedule := rest, rle := none, iter := none, pending := s.pending ++ [.fin] }) ∧
  (∀ (s : State) (rest : List Move) (it : Iter) (i : Instr), s.schedule = .block :: rest → s.rle = none →
    s.iter = some it → s.current = some i → isBlit i = true → isBlitRle i = false → it.visH ≤ it.j →
    step s = .next { s with schedule := rest, iter := none, pending := s.pending ++ [.fin] })

/-! ## Events and completion -/

/-- 30_encoding.md R84, 10_state.md R29, R30: an event accepted before the last of its command leaves BUSY as it is; with the
last, BUSY falls. An accepted `End` clears WIN_OPEN, any other event leaves it. -/
def Obligations.BusyFallsWithTheLastEvent : Prop :=
  ∀ (s : State) (rest : List Move), s.schedule = .accept :: rest → s.LateOk →
    (s.pending = [] → step s = .next { s with schedule := rest }) ∧
    ∀ e es, s.pending = e :: es → ∃ t, step s = .next t ∧ t.pending = es ∧ t.accepted = s.accepted ++ [e] ∧
      t.winOpen = (s.winOpen && decide (e ≠ .fin)) ∧
      t.busy = (s.busy && (decide (es ≠ []) || s.iter.isSome || s.rle.isSome)) ∧
      t.operands = s.operands ∧ t.pal = s.pal ∧ t.offx = s.offx ∧ t.offy = s.offy ∧ t.orient = s.orient ∧ t.mem = s.mem ∧
      t.iter = s.iter ∧ t.rle = s.rle

/-- 60_exceptions.md R205: when a command completes, every flag it raised and the host did not clear meanwhile is 1, and no
bit is set that was neither set nor raised; a flag cleared meanwhile is left open. -/
def Obligations.RaisedFlagsShowAtCompletion : Prop :=
  ∀ (s : State) (rest : List Move) (e : Event), s.schedule = .accept :: rest → s.pending = [e] → s.iter = none →
    s.rle = none →
    ∃ t, step s = .next t ∧ t.raised = 0 ∧ t.cleared = 0 ∧ t.current = none ∧
      ∀ n, 8 ≤ n →
        (s.status.getLsbD n = true → t.status.getLsbD n = true) ∧
        (s.raised.getLsbD n = true → s.cleared.getLsbD n = false → t.status.getLsbD n = true) ∧
        (t.status.getLsbD n = true → s.status.getLsbD n = true ∨ s.raised.getLsbD n = true)

/-- 20_memory.md R62, R64: a host write made while BUSY leaves each later read of the byte by the command the old or the new
value; made while idle, every later read gives the new one. Other bytes read as before. -/
def Obligations.HostWritesRaceOnlyWhileBusy : Prop :=
  ∀ (s : State) (rest : List Move) (a : Word) (b : Byte), s.schedule = .hostStore a b :: rest →
    a.toNat < s.params.srcSize → Memory.wf s.mem = true → s.raced = [] →
    ∃ t, step s = .next t ∧ t = { s with schedule := rest, mem := t.mem, raced := t.raced } ∧
      (∀ key, (s.busy = true → t.readSource a key = b ∨ t.readSource a key = Memory.read s.mem a.toNat) ∧
        (s.busy = false → t.readSource a key = b)) ∧
      ∀ x key, x ≠ a → t.readSource x key = s.readSource x key

/-- 70_reset_and_hazards.md R241, 42_decoders.md R159: with the transport taking what it is offered, every command completes
and the block is idle again. -/
def Obligations.EveryCommandCompletes : Prop :=
  ∀ s : State, s.Coherent → s.schedule = [] → ∃ k t, runSteps k s = .next t ∧ t.busy = false ∧ t.Coherent

/-! ## Whole blits -/

/-- 43_blit.md R173, R177, 42_decoders.md R140, R144, R145: a BLIT1 that is not dropped emits its header, two bytes for each
pixel of `Decode1` in scan order and `End`, and leaves the block idle with its registers unchanged. The keys of free bytes in the
list decoders are the model's (log 1), here and below. -/
def Obligations.Blit1EmitsItsPicture : Prop :=
  ∀ (s : State) (fh fv : Bool) (w h : Nat), s.Coherent → s.busy = false → s.winOpen = false → s.schedule = [] →
    s.clipped = some (w, h) →
    ∃ t k u, exec (.blit1 fh fv) s = .next t ∧ runSteps k t = .next u ∧ u.busy = false ∧ u.winOpen = false ∧
      u.accepted = s.accepted ++ s.blitHeader w h ++
        (s.monoColors (s.startIter (ceil8 s.operands.tileW.value.toNat) s.operands.srcBase.value w h)).flatMap pixelEvents ++
        [.fin] ∧
      u.operands = s.operands ∧ u.pal = s.pal ∧ u.orient = s.orient ∧ u.mem = s.mem

/-- 43_blit.md R173, R175, R177, 42_decoders.md R140, R142, R147, R148: the same for a BLIT4 and `Decode4`. -/
def Obligations.Blit4EmitsItsPicture : Prop :=
  ∀ (s : State) (fh fv : Bool) (w h : Nat), s.Coherent → s.busy = false → s.winOpen = false → s.schedule = [] →
    s.operands.imgW.value ≠ 0 → s.clipped = some (w, h) →
    ∃ t k u, exec (.blit4 fh fv) s = .next t ∧ runSteps k t = .next u ∧ u.busy = false ∧ u.winOpen = false ∧
      u.accepted = s.accepted ++ s.blitHeader w h ++
        (s.indexedColors fh fv (s.startIter s.operands.imgW.value.toNat s.tileBase w h)).flatMap pixelEvents ++ [.fin] ∧
      u.operands = s.operands ∧ u.pal = s.pal ∧ u.orient = s.orient ∧ u.mem = s.mem

/-- 43_blit.md R173, R176, R177, 42_decoders.md R153 to R157: the same for a BLITRLE and `DecodeRLE`, token by token. -/
def Obligations.BlitRleEmitsItsPicture : Prop :=
  ∀ (s : State) (fh fv : Bool) (w h : Nat), s.Coherent → s.busy = false → s.winOpen = false → s.schedule = [] →
    s.clipped = some (w, h) →
    ∃ t k u, exec (.blitRle fh fv) s = .next t ∧ runSteps k t = .next u ∧ u.busy = false ∧ u.winOpen = false ∧
      u.accepted = s.accepted ++ s.blitHeader w h ++ (s.rleColors (s.firstRle w h)).flatMap pixelEvents ++ [.fin] ∧
      u.operands = s.operands ∧ u.pal = s.pal ∧ u.orient = s.orient ∧ u.mem = s.mem

/-- 42_decoders.md R159, R157: `DecodeRLE` gives exactly `w' · h'` colors, whatever the tokens are. -/
def Obligations.RleColorsFillTheWindow : Prop :=
  ∀ (s : State) (r : Rle), r.Ok → r.p = 0 → (s.rleColors r).length = r.visW * r.visH

/-- 42_decoders.md R160: for an unclamped tile whose tokens' runs sum to `W · H` exactly, running the tokens emits each
token's color as often as its run says, and reads exactly those tokens. -/
def Obligations.RleRoundTripReproducesTheTile : Prop :=
  ∀ (s : State) (r : Rle) (tokens : List (BitVec 4 × BitVec 4)), s.rle = some r → s.schedule = [] → s.raced = [] →
    r.p = 0 → r.visW = r.tileW → r.visH = r.tileH → s.params.srcSize ≤ 2 ^ 32 →
    r.tp.toNat + tokens.length ≤ s.params.srcSize →
    (∀ m (hm : m < tokens.length), Memory.read s.mem (r.tp.toNat + m) = tokens[m].1 ++ tokens[m].2) →
    (tokens.map fun t => t.2.toNat + 1).sum = r.tileW * r.tileH →
    ∃ t, runSteps tokens.length s = .next t ∧
      t.pending = s.pending ++ tokens.flatMap (fun tk =>
        (List.replicate (tk.2.toNat + 1) (s.palEntry tk.1).value).flatMap pixelEvents) ∧
      ∃ r', t.rle = some r' ∧ r'.p = r.tileW * r.tileH ∧ r'.tp = r.tp + BitVec.ofNat 32 tokens.length

/-- 42_decoders.md R143: the stride form reads the addresses of the coordinate form. -/
def Obligations.StrideFormFollowsTheCoordinates : Prop :=
  ∀ (tb : Word) (w h iw visW visH : Nat) (fh fv : Bool) (n : Nat), 1 ≤ visW → visW ≤ w → visH ≤ h → n < visW * visH →
    let c := sourceCoord (n % visW) (n / visW) w h fh fv
    strideWalk iw visW fh fv n 0 (strideStart tb w h iw fh fv) = tb + BitVec.ofNat 32 (c.2 * iw + c.1)

/-- 43_blit.md R178: a BLIT4 whose bytes all lie in source memory, issued twice, emits the same events both times and leaves
the registers and the orientation as they were. -/
def Obligations.RepeatedBlit4EmitsTheSameEvents : Prop :=
  ∀ (s : State) (fh fv : Bool) (w h : Nat), s.Coherent → s.busy = false → s.winOpen = false → s.schedule = [] →
    s.operands.imgW.value ≠ 0 → s.clipped = some (w, h) →
    (∀ n, n < w * h →
      s.inSource (((s.startIter s.operands.imgW.value.toNat s.tileBase w h).at n).indexedAddr fh fv) = true) →
    ∃ es t k u t' k' u', exec (.blit4 fh fv) s = .next t ∧ runSteps k t = .next u ∧ u.busy = false ∧
      u.accepted = s.accepted ++ es ∧ exec (.blit4 fh fv) u = .next t' ∧ runSteps k' t' = .next u' ∧ u'.busy = false ∧
      u'.accepted = u.accepted ++ es ∧ es.length = 12 + 2 * (w * h) ∧
      u'.operands = s.operands ∧ u'.pal = s.pal ∧ u'.orient = s.orient

/-! ## The end of a run -/

/-- 70_reset_and_hazards.md R242: a run has an observation exactly when it has ended (the host has no transaction to come, and
no reset, log 21; BUSY is 0) and no model fault has occurred (R213, log 3). It is the accepted events and the final register,
palette, orientation and STATUS values, and no later step of an ended run changes it. -/
def Obligations.EndedRunsKeepTheirObservation : Prop :=
  (∀ s : State,
    let ended := s.busy = false ∧ s.modelFault = none ∧
      ∀ m ∈ s.schedule, m = .block ∨ m = .accept ∨ ∃ a b, m = .hostStore a b
    (¬ended → s.observation = none) ∧
      (ended → s.observation = some
        { events := s.accepted, operands := s.operands, pal := s.pal, offx := s.offx, offy := s.offy, orient := s.orient
          status := s.status })) ∧
  ∀ (s t : State) (o : Observation), s.Coherent → s.observation = some o → step s = .next t → t.observation = some o
end

