-- ==== Sys2Proof/Laws/Memory.lean ====
section
/-! SUPPORT. Source memory: read after write, and the canonical form every write keeps. -/

namespace Sys2Proof.Machine

open Sys2Proof

/-- Every cell of `m` lies above `a`. -/
def Memory.Above (a : Nat) (m : List Host.Cell) : Prop := ∀ c ∈ m, a < c.1

theorem Memory.wf_cons_iff (c : Host.Cell) (m : List Host.Cell) :
    Memory.wf (c :: m) = true ↔ c.2 ≠ Memory.unlisted ∧ Memory.Above c.1 m ∧ Memory.wf m = true := by
  induction m generalizing c with
  | nil => simp [Memory.wf, Memory.Above]
  | cons d rest ih =>
    have step : Memory.wf (c :: d :: rest) = true ↔
        c.2 ≠ Memory.unlisted ∧ c.1 < d.1 ∧ Memory.wf (d :: rest) = true := by
      simp [Memory.wf, and_assoc]
    rw [step]
    constructor
    · rintro ⟨hc, hlt, hwf⟩
      refine ⟨hc, ?_, hwf⟩
      intro e he
      rcases List.mem_cons.mp he with rfl | he
      · exact hlt
      · exact hlt.trans (((ih d).mp hwf).2.1 e he)
    · rintro ⟨hc, habove, hwf⟩
      exact ⟨hc, habove d (by simp), hwf⟩

/-- An address below every cell reads as an unlisted one. -/
theorem Memory.read_of_above {a b : Nat} {m : List Host.Cell} (h : Memory.Above b m) (hab : a ≤ b) :
    Memory.read m a = Memory.unlisted := by
  induction m with
  | nil => rfl
  | cons c rest ih =>
    have hc : b < c.1 := h c (by simp)
    rw [Memory.read, if_neg (by omega)]
    exact ih fun d hd => h d (by simp [hd])

theorem Memory.mem_cons_cell {a : Nat} {b : Byte} {m : List Host.Cell} {c : Host.Cell}
    (h : c ∈ Memory.cons a b m) : c.1 = a ∨ c ∈ m := by
  unfold Memory.cons at h
  split at h
  · exact .inr h
  · rcases List.mem_cons.mp h with rfl | h
    · exact .inl rfl
    · exact .inr h

/-- A cell of the memory after a write is at the address written, or was there before. -/
theorem Memory.mem_write {a : Nat} {b : Byte} {m : List Host.Cell} {c : Host.Cell}
    (h : c ∈ Memory.write m a b) : c.1 = a ∨ c ∈ m := by
  induction m with
  | nil => simpa using Memory.mem_cons_cell h
  | cons d rest ih =>
    rw [Memory.write] at h
    split at h
    · exact Memory.mem_cons_cell h
    · split at h
      · rcases Memory.mem_cons_cell h with h | h
        · exact .inl h
        · exact .inr (List.mem_cons_of_mem _ h)
      · rcases List.mem_cons.mp h with rfl | h
        · exact .inr (by simp)
        · exact (ih h).imp_right (List.mem_cons_of_mem _)

theorem Memory.cons_wf {a : Nat} {b : Byte} {m : List Host.Cell} (hm : Memory.wf m = true)
    (ha : Memory.Above a m) : Memory.wf (Memory.cons a b m) = true := by
  unfold Memory.cons
  split
  · exact hm
  · next hb => exact (Memory.wf_cons_iff _ _).mpr ⟨hb, ha, hm⟩

/-- A write keeps the canonical form. -/
theorem Memory.write_wf {m : List Host.Cell} (hm : Memory.wf m = true) (a : Nat) (b : Byte) :
    Memory.wf (Memory.write m a b) = true := by
  induction m with
  | nil => exact Memory.cons_wf hm (fun c hc => by simp at hc)
  | cons c rest ih =>
    obtain ⟨hc, habove, hrest⟩ := (Memory.wf_cons_iff c rest).mp hm
    rw [Memory.write]
    split
    · next hlt =>
      refine Memory.cons_wf hm fun d hd => ?_
      rcases List.mem_cons.mp hd with rfl | hd
      · exact hlt
      · exact hlt.trans (habove d hd)
    · split
      · next heq => exact Memory.cons_wf hrest (heq ▸ habove)
      · next hnlt hne =>
        refine (Memory.wf_cons_iff _ _).mpr ⟨hc, fun d hd => ?_, ih hrest⟩
        rcases Memory.mem_write hd with hd | hd
        · omega
        · exact habove d hd

theorem Memory.read_cons_self {a : Nat} {b : Byte} {m : List Host.Cell} (ha : Memory.Above a m) :
    Memory.read (Memory.cons a b m) a = b := by
  unfold Memory.cons
  split
  · next hb => rw [Memory.read_of_above ha le_rfl, hb]
  · simp [Memory.read]

theorem Memory.read_cons_ne {a x : Nat} {b : Byte} {m : List Host.Cell} (hx : x ≠ a) :
    Memory.read (Memory.cons a b m) x = Memory.read m x := by
  unfold Memory.cons
  split
  · rfl
  · simp [Memory.read, Ne.symm hx]

/-- Reading the address just written gives the byte written. -/
theorem Memory.read_write_self {m : List Host.Cell} (hm : Memory.wf m = true) (a : Nat) (b : Byte) :
    Memory.read (Memory.write m a b) a = b := by
  induction m with
  | nil => exact Memory.read_cons_self fun c hc => by simp at hc
  | cons c rest ih =>
    obtain ⟨-, habove, hrest⟩ := (Memory.wf_cons_iff c rest).mp hm
    rw [Memory.write]
    split
    · next hlt =>
      refine Memory.read_cons_self fun d hd => ?_
      rcases List.mem_cons.mp hd with rfl | hd
      · exact hlt
      · exact hlt.trans (habove d hd)
    · split
      · next heq => exact Memory.read_cons_self (heq ▸ habove)
      · next hne => rw [Memory.read, if_neg hne, ih hrest]

/-- A write leaves every other address as it was. -/
theorem Memory.read_write_ne {m : List Host.Cell} {a x : Nat} (hx : x ≠ a) (b : Byte) :
    Memory.read (Memory.write m a b) x = Memory.read m x := by
  induction m with
  | nil => exact Memory.read_cons_ne hx
  | cons c rest ih =>
    rw [Memory.write]
    split
    · exact Memory.read_cons_ne hx
    · split
      · next heq => rw [Memory.read_cons_ne hx, Memory.read, if_neg (by omega)]
      · simp only [Memory.read, ih]

end Sys2Proof.Machine
end

