-- ==== Sys2Proof/Laws/State.lean ====
section
/-! SUPPORT. What each named update of the state leaves as it was, one equation a field, true by unfolding once, so that no
later proof unfolds a record update. -/

namespace Sys2Proof.Machine

open Sys2Proof

@[simp] theorem State.setFlag_frame (s : State) (f : Flag) :
    (s.setFlag f).params = s.params ∧ (s.setFlag f).operands = s.operands ∧ (s.setFlag f).pal = s.pal ∧
    (s.setFlag f).offx = s.offx ∧ (s.setFlag f).offy = s.offy ∧ (s.setFlag f).orient = s.orient ∧
    (s.setFlag f).raised = s.raised ∧ (s.setFlag f).cleared = s.cleared ∧ (s.setFlag f).current = s.current ∧
    (s.setFlag f).iter = s.iter ∧ (s.setFlag f).rle = s.rle ∧ (s.setFlag f).pending = s.pending ∧
    (s.setFlag f).mem = s.mem ∧ (s.setFlag f).raced = s.raced ∧ (s.setFlag f).accepted = s.accepted ∧
    (s.setFlag f).readData = s.readData ∧ (s.setFlag f).schedule = s.schedule ∧ (s.setFlag f).draws = s.draws ∧
    (s.setFlag f).modelFault = s.modelFault := by
  refine ⟨rfl, rfl, rfl, rfl, rfl, rfl, rfl, rfl, rfl, rfl, rfl, rfl, rfl, rfl, rfl, rfl, rfl, rfl, rfl⟩

@[simp] theorem State.setFlagIf_frame (s : State) (c : Bool) (f : Flag) :
    (s.setFlagIf c f).params = s.params ∧ (s.setFlagIf c f).operands = s.operands ∧ (s.setFlagIf c f).pal = s.pal ∧
    (s.setFlagIf c f).offx = s.offx ∧ (s.setFlagIf c f).offy = s.offy ∧ (s.setFlagIf c f).orient = s.orient ∧
    (s.setFlagIf c f).raised = s.raised ∧ (s.setFlagIf c f).cleared = s.cleared ∧ (s.setFlagIf c f).current = s.current ∧
    (s.setFlagIf c f).iter = s.iter ∧ (s.setFlagIf c f).rle = s.rle ∧ (s.setFlagIf c f).pending = s.pending ∧
    (s.setFlagIf c f).mem = s.mem ∧ (s.setFlagIf c f).raced = s.raced ∧ (s.setFlagIf c f).accepted = s.accepted ∧
    (s.setFlagIf c f).readData = s.readData ∧ (s.setFlagIf c f).schedule = s.schedule ∧ (s.setFlagIf c f).draws = s.draws ∧
    (s.setFlagIf c f).modelFault = s.modelFault := by
  refine ⟨rfl, rfl, rfl, rfl, rfl, rfl, rfl, rfl, rfl, rfl, rfl, rfl, rfl, rfl, rfl, rfl, rfl, rfl, rfl⟩

@[simp] theorem State.reject_frame (s : State) (f : Flag) :
    (s.reject f).params = s.params ∧ (s.reject f).operands = s.operands ∧ (s.reject f).pal = s.pal ∧
    (s.reject f).offx = s.offx ∧ (s.reject f).offy = s.offy ∧ (s.reject f).orient = s.orient ∧
    (s.reject f).raised = s.raised ∧ (s.reject f).cleared = s.cleared ∧ (s.reject f).current = s.current ∧
    (s.reject f).iter = s.iter ∧ (s.reject f).rle = s.rle ∧ (s.reject f).pending = s.pending ∧
    (s.reject f).mem = s.mem ∧ (s.reject f).raced = s.raced ∧ (s.reject f).accepted = s.accepted ∧
    (s.reject f).readData = s.readData ∧ (s.reject f).schedule = s.schedule ∧ (s.reject f).draws = s.draws ∧
    (s.reject f).modelFault = s.modelFault := by
  refine ⟨rfl, rfl, rfl, rfl, rfl, rfl, rfl, rfl, rfl, rfl, rfl, rfl, rfl, rfl, rfl, rfl, rfl, rfl, rfl⟩

@[simp] theorem State.setBusy_frame (s : State) (b : Bool) :
    (s.setBusy b).params = s.params ∧ (s.setBusy b).operands = s.operands ∧ (s.setBusy b).pal = s.pal ∧
    (s.setBusy b).offx = s.offx ∧ (s.setBusy b).offy = s.offy ∧ (s.setBusy b).orient = s.orient ∧
    (s.setBusy b).raised = s.raised ∧ (s.setBusy b).cleared = s.cleared ∧ (s.setBusy b).current = s.current ∧
    (s.setBusy b).iter = s.iter ∧ (s.setBusy b).rle = s.rle ∧ (s.setBusy b).pending = s.pending ∧
    (s.setBusy b).mem = s.mem ∧ (s.setBusy b).raced = s.raced ∧ (s.setBusy b).accepted = s.accepted ∧
    (s.setBusy b).readData = s.readData ∧ (s.setBusy b).schedule = s.schedule ∧ (s.setBusy b).draws = s.draws ∧
    (s.setBusy b).modelFault = s.modelFault := by
  refine ⟨rfl, rfl, rfl, rfl, rfl, rfl, rfl, rfl, rfl, rfl, rfl, rfl, rfl, rfl, rfl, rfl, rfl, rfl, rfl⟩

@[simp] theorem State.setWinOpen_frame (s : State) (b : Bool) :
    (s.setWinOpen b).params = s.params ∧ (s.setWinOpen b).operands = s.operands ∧ (s.setWinOpen b).pal = s.pal ∧
    (s.setWinOpen b).offx = s.offx ∧ (s.setWinOpen b).offy = s.offy ∧ (s.setWinOpen b).orient = s.orient ∧
    (s.setWinOpen b).raised = s.raised ∧ (s.setWinOpen b).cleared = s.cleared ∧ (s.setWinOpen b).current = s.current ∧
    (s.setWinOpen b).iter = s.iter ∧ (s.setWinOpen b).rle = s.rle ∧ (s.setWinOpen b).pending = s.pending ∧
    (s.setWinOpen b).mem = s.mem ∧ (s.setWinOpen b).raced = s.raced ∧ (s.setWinOpen b).accepted = s.accepted ∧
    (s.setWinOpen b).readData = s.readData ∧ (s.setWinOpen b).schedule = s.schedule ∧ (s.setWinOpen b).draws = s.draws ∧
    (s.setWinOpen b).modelFault = s.modelFault := by
  refine ⟨rfl, rfl, rfl, rfl, rfl, rfl, rfl, rfl, rfl, rfl, rfl, rfl, rfl, rfl, rfl, rfl, rfl, rfl, rfl⟩

@[simp] theorem State.raiseIf_frame (s : State) (c : Bool) (f : Flag) :
    (s.raiseIf c f).params = s.params ∧ (s.raiseIf c f).operands = s.operands ∧ (s.raiseIf c f).pal = s.pal ∧
    (s.raiseIf c f).offx = s.offx ∧ (s.raiseIf c f).offy = s.offy ∧ (s.raiseIf c f).orient = s.orient ∧
    (s.raiseIf c f).status = s.status ∧ (s.raiseIf c f).cleared = s.cleared ∧ (s.raiseIf c f).current = s.current ∧
    (s.raiseIf c f).iter = s.iter ∧ (s.raiseIf c f).rle = s.rle ∧ (s.raiseIf c f).pending = s.pending ∧
    (s.raiseIf c f).mem = s.mem ∧ (s.raiseIf c f).raced = s.raced ∧ (s.raiseIf c f).accepted = s.accepted ∧
    (s.raiseIf c f).readData = s.readData ∧ (s.raiseIf c f).schedule = s.schedule ∧ (s.raiseIf c f).draws = s.draws ∧
    (s.raiseIf c f).modelFault = s.modelFault := by
  refine ⟨rfl, rfl, rfl, rfl, rfl, rfl, rfl, rfl, rfl, rfl, rfl, rfl, rfl, rfl, rfl, rfl, rfl, rfl, rfl⟩

@[simp] theorem State.noteRange_frame (s : State) (a : Word) :
    (s.noteRange a).params = s.params ∧ (s.noteRange a).operands = s.operands ∧ (s.noteRange a).pal = s.pal ∧
    (s.noteRange a).offx = s.offx ∧ (s.noteRange a).offy = s.offy ∧ (s.noteRange a).orient = s.orient ∧
    (s.noteRange a).status = s.status ∧ (s.noteRange a).cleared = s.cleared ∧ (s.noteRange a).current = s.current ∧
    (s.noteRange a).iter = s.iter ∧ (s.noteRange a).rle = s.rle ∧ (s.noteRange a).pending = s.pending ∧
    (s.noteRange a).mem = s.mem ∧ (s.noteRange a).raced = s.raced ∧ (s.noteRange a).accepted = s.accepted ∧
    (s.noteRange a).readData = s.readData ∧ (s.noteRange a).schedule = s.schedule ∧ (s.noteRange a).draws = s.draws ∧
    (s.noteRange a).modelFault = s.modelFault := by
  refine ⟨rfl, rfl, rfl, rfl, rfl, rfl, rfl, rfl, rfl, rfl, rfl, rfl, rfl, rfl, rfl, rfl, rfl, rfl, rfl⟩

@[simp] theorem State.use_frame (s : State) (rs : List (RegId × Bool)) :
    (s.use rs).params = s.params ∧ (s.use rs).operands = s.operands ∧ (s.use rs).pal = s.pal ∧
    (s.use rs).offx = s.offx ∧ (s.use rs).offy = s.offy ∧ (s.use rs).orient = s.orient ∧
    (s.use rs).status = s.status ∧ (s.use rs).raised = s.raised ∧ (s.use rs).cleared = s.cleared ∧
    (s.use rs).current = s.current ∧ (s.use rs).iter = s.iter ∧ (s.use rs).rle = s.rle ∧
    (s.use rs).pending = s.pending ∧ (s.use rs).mem = s.mem ∧ (s.use rs).raced = s.raced ∧
    (s.use rs).accepted = s.accepted ∧ (s.use rs).readData = s.readData ∧ (s.use rs).schedule = s.schedule ∧
    (s.use rs).draws = s.draws := by
  refine ⟨rfl, rfl, rfl, rfl, rfl, rfl, rfl, rfl, rfl, rfl, rfl, rfl, rfl, rfl, rfl, rfl, rfl, rfl, rfl⟩

@[simp] theorem State.useOperands_frame (s : State) (os : List Operand) :
    (s.useOperands os).params = s.params ∧ (s.useOperands os).operands = s.operands ∧ (s.useOperands os).pal = s.pal ∧
    (s.useOperands os).offx = s.offx ∧ (s.useOperands os).offy = s.offy ∧ (s.useOperands os).orient = s.orient ∧
    (s.useOperands os).status = s.status ∧ (s.useOperands os).raised = s.raised ∧ (s.useOperands os).cleared = s.cleared ∧
    (s.useOperands os).current = s.current ∧ (s.useOperands os).iter = s.iter ∧ (s.useOperands os).rle = s.rle ∧
    (s.useOperands os).pending = s.pending ∧ (s.useOperands os).mem = s.mem ∧ (s.useOperands os).raced = s.raced ∧
    (s.useOperands os).accepted = s.accepted ∧ (s.useOperands os).readData = s.readData ∧ (s.useOperands os).schedule = s.schedule ∧
    (s.useOperands os).draws = s.draws := by
  refine ⟨rfl, rfl, rfl, rfl, rfl, rfl, rfl, rfl, rfl, rfl, rfl, rfl, rfl, rfl, rfl, rfl, rfl, rfl, rfl⟩

@[simp] theorem State.useOffsets_frame (s : State) (r : BitVec 2) :
    (s.useOffsets r).params = s.params ∧ (s.useOffsets r).operands = s.operands ∧ (s.useOffsets r).pal = s.pal ∧
    (s.useOffsets r).offx = s.offx ∧ (s.useOffsets r).offy = s.offy ∧ (s.useOffsets r).orient = s.orient ∧
    (s.useOffsets r).status = s.status ∧ (s.useOffsets r).raised = s.raised ∧ (s.useOffsets r).cleared = s.cleared ∧
    (s.useOffsets r).current = s.current ∧ (s.useOffsets r).iter = s.iter ∧ (s.useOffsets r).rle = s.rle ∧
    (s.useOffsets r).pending = s.pending ∧ (s.useOffsets r).mem = s.mem ∧ (s.useOffsets r).raced = s.raced ∧
    (s.useOffsets r).accepted = s.accepted ∧ (s.useOffsets r).readData = s.readData ∧ (s.useOffsets r).schedule = s.schedule ∧
    (s.useOffsets r).draws = s.draws := by
  refine ⟨rfl, rfl, rfl, rfl, rfl, rfl, rfl, rfl, rfl, rfl, rfl, rfl, rfl, rfl, rfl, rfl, rfl, rfl, rfl⟩

@[simp] theorem State.emit_frame (s : State) (es : List Event) :
    (s.emit es).params = s.params ∧ (s.emit es).operands = s.operands ∧ (s.emit es).pal = s.pal ∧
    (s.emit es).offx = s.offx ∧ (s.emit es).offy = s.offy ∧ (s.emit es).orient = s.orient ∧
    (s.emit es).status = s.status ∧ (s.emit es).raised = s.raised ∧ (s.emit es).cleared = s.cleared ∧
    (s.emit es).current = s.current ∧ (s.emit es).iter = s.iter ∧ (s.emit es).rle = s.rle ∧
    (s.emit es).mem = s.mem ∧ (s.emit es).raced = s.raced ∧ (s.emit es).accepted = s.accepted ∧
    (s.emit es).readData = s.readData ∧ (s.emit es).schedule = s.schedule ∧ (s.emit es).draws = s.draws ∧
    (s.emit es).modelFault = s.modelFault := by
  refine ⟨rfl, rfl, rfl, rfl, rfl, rfl, rfl, rfl, rfl, rfl, rfl, rfl, rfl, rfl, rfl, rfl, rfl, rfl, rfl⟩

@[simp] theorem State.emitPixel_frame (s : State) (k : BitVec 4) :
    (s.emitPixel k).params = s.params ∧ (s.emitPixel k).operands = s.operands ∧ (s.emitPixel k).pal = s.pal ∧
    (s.emitPixel k).offx = s.offx ∧ (s.emitPixel k).offy = s.offy ∧ (s.emitPixel k).orient = s.orient ∧
    (s.emitPixel k).status = s.status ∧ (s.emitPixel k).raised = s.raised ∧ (s.emitPixel k).cleared = s.cleared ∧
    (s.emitPixel k).current = s.current ∧ (s.emitPixel k).iter = s.iter ∧ (s.emitPixel k).rle = s.rle ∧
    (s.emitPixel k).mem = s.mem ∧ (s.emitPixel k).raced = s.raced ∧ (s.emitPixel k).accepted = s.accepted ∧
    (s.emitPixel k).readData = s.readData ∧ (s.emitPixel k).schedule = s.schedule ∧ (s.emitPixel k).draws = s.draws := by
  refine ⟨rfl, rfl, rfl, rfl, rfl, rfl, rfl, rfl, rfl, rfl, rfl, rfl, rfl, rfl, rfl, rfl, rfl, rfl⟩

@[simp] theorem State.reserve_frame (s : State) (n : Nat) :
    (s.reserve n).params = s.params ∧ (s.reserve n).operands = s.operands ∧ (s.reserve n).pal = s.pal ∧
    (s.reserve n).offx = s.offx ∧ (s.reserve n).offy = s.offy ∧ (s.reserve n).orient = s.orient ∧
    (s.reserve n).status = s.status ∧ (s.reserve n).raised = s.raised ∧ (s.reserve n).cleared = s.cleared ∧
    (s.reserve n).current = s.current ∧ (s.reserve n).iter = s.iter ∧ (s.reserve n).rle = s.rle ∧
    (s.reserve n).pending = s.pending ∧ (s.reserve n).mem = s.mem ∧ (s.reserve n).raced = s.raced ∧
    (s.reserve n).accepted = s.accepted ∧ (s.reserve n).readData = s.readData ∧ (s.reserve n).schedule = s.schedule ∧
    (s.reserve n).modelFault = s.modelFault := by
  refine ⟨rfl, rfl, rfl, rfl, rfl, rfl, rfl, rfl, rfl, rfl, rfl, rfl, rfl, rfl, rfl, rfl, rfl, rfl, rfl⟩

@[simp] theorem State.beginCommand_frame (s : State) (i : Instr) (es : List Event) :
    (s.beginCommand i es).params = s.params ∧ (s.beginCommand i es).operands = s.operands ∧ (s.beginCommand i es).pal = s.pal ∧
    (s.beginCommand i es).offx = s.offx ∧ (s.beginCommand i es).offy = s.offy ∧ (s.beginCommand i es).orient = s.orient ∧
    (s.beginCommand i es).raised = s.raised ∧ (s.beginCommand i es).cleared = s.cleared ∧ (s.beginCommand i es).iter = s.iter ∧
    (s.beginCommand i es).rle = s.rle ∧ (s.beginCommand i es).mem = s.mem ∧ (s.beginCommand i es).raced = s.raced ∧
    (s.beginCommand i es).accepted = s.accepted ∧ (s.beginCommand i es).readData = s.readData ∧ (s.beginCommand i es).schedule = s.schedule ∧
    (s.beginCommand i es).draws = s.draws ∧ (s.beginCommand i es).modelFault = s.modelFault := by
  refine ⟨rfl, rfl, rfl, rfl, rfl, rfl, rfl, rfl, rfl, rfl, rfl, rfl, rfl, rfl, rfl, rfl, rfl⟩

@[simp] theorem State.finishDecode_frame (s : State) :
    s.finishDecode.params = s.params ∧ s.finishDecode.operands = s.operands ∧ s.finishDecode.pal = s.pal ∧
    s.finishDecode.offx = s.offx ∧ s.finishDecode.offy = s.offy ∧ s.finishDecode.orient = s.orient ∧
    s.finishDecode.status = s.status ∧ s.finishDecode.raised = s.raised ∧ s.finishDecode.cleared = s.cleared ∧
    s.finishDecode.current = s.current ∧ s.finishDecode.mem = s.mem ∧ s.finishDecode.raced = s.raced ∧
    s.finishDecode.accepted = s.accepted ∧ s.finishDecode.readData = s.readData ∧ s.finishDecode.schedule = s.schedule ∧
    s.finishDecode.draws = s.draws ∧ s.finishDecode.modelFault = s.modelFault := by
  refine ⟨rfl, rfl, rfl, rfl, rfl, rfl, rfl, rfl, rfl, rfl, rfl, rfl, rfl, rfl, rfl, rfl, rfl⟩

@[simp] theorem State.showStatus_frame (s : State) :
    s.showStatus.params = s.params ∧ s.showStatus.operands = s.operands ∧ s.showStatus.pal = s.pal ∧
    s.showStatus.offx = s.offx ∧ s.showStatus.offy = s.offy ∧ s.showStatus.orient = s.orient ∧
    s.showStatus.raised = s.raised ∧ s.showStatus.cleared = s.cleared ∧ s.showStatus.current = s.current ∧
    s.showStatus.iter = s.iter ∧ s.showStatus.rle = s.rle ∧ s.showStatus.pending = s.pending ∧
    s.showStatus.mem = s.mem ∧ s.showStatus.raced = s.raced ∧ s.showStatus.accepted = s.accepted ∧
    s.showStatus.readData = s.readData ∧ s.showStatus.schedule = s.schedule ∧ s.showStatus.modelFault = s.modelFault := by
  refine ⟨rfl, rfl, rfl, rfl, rfl, rfl, rfl, rfl, rfl, rfl, rfl, rfl, rfl, rfl, rfl, rfl, rfl, rfl⟩

@[simp] theorem State.statusWrite_frame (s : State) (d : Word) :
    (s.statusWrite d).params = s.params ∧ (s.statusWrite d).operands = s.operands ∧ (s.statusWrite d).pal = s.pal ∧
    (s.statusWrite d).offx = s.offx ∧ (s.statusWrite d).offy = s.offy ∧ (s.statusWrite d).orient = s.orient ∧
    (s.statusWrite d).raised = s.raised ∧ (s.statusWrite d).current = s.current ∧ (s.statusWrite d).iter = s.iter ∧
    (s.statusWrite d).rle = s.rle ∧ (s.statusWrite d).pending = s.pending ∧ (s.statusWrite d).mem = s.mem ∧
    (s.statusWrite d).raced = s.raced ∧ (s.statusWrite d).accepted = s.accepted ∧ (s.statusWrite d).readData = s.readData ∧
    (s.statusWrite d).schedule = s.schedule ∧ (s.statusWrite d).draws = s.draws ∧ (s.statusWrite d).modelFault = s.modelFault := by
  refine ⟨rfl, rfl, rfl, rfl, rfl, rfl, rfl, rfl, rfl, rfl, rfl, rfl, rfl, rfl, rfl, rfl, rfl, rfl⟩

@[simp] theorem State.complete_frame (s : State) :
    s.complete.params = s.params ∧ s.complete.operands = s.operands ∧ s.complete.pal = s.pal ∧
    s.complete.offx = s.offx ∧ s.complete.offy = s.offy ∧ s.complete.orient = s.orient ∧
    s.complete.iter = s.iter ∧ s.complete.rle = s.rle ∧ s.complete.pending = s.pending ∧
    s.complete.mem = s.mem ∧ s.complete.accepted = s.accepted ∧ s.complete.readData = s.readData ∧
    s.complete.schedule = s.schedule ∧ s.complete.modelFault = s.modelFault := by
  refine ⟨rfl, rfl, rfl, rfl, rfl, rfl, rfl, rfl, rfl, rfl, rfl, rfl, rfl, rfl⟩

@[simp] theorem State.passEvent_frame (s : State) (e : Event) (rest : List Event) :
    (s.passEvent e rest).params = s.params ∧ (s.passEvent e rest).operands = s.operands ∧ (s.passEvent e rest).pal = s.pal ∧
    (s.passEvent e rest).offx = s.offx ∧ (s.passEvent e rest).offy = s.offy ∧ (s.passEvent e rest).orient = s.orient ∧
    (s.passEvent e rest).status = s.status ∧ (s.passEvent e rest).raised = s.raised ∧ (s.passEvent e rest).cleared = s.cleared ∧
    (s.passEvent e rest).current = s.current ∧ (s.passEvent e rest).iter = s.iter ∧ (s.passEvent e rest).rle = s.rle ∧
    (s.passEvent e rest).mem = s.mem ∧ (s.passEvent e rest).raced = s.raced ∧ (s.passEvent e rest).readData = s.readData ∧
    (s.passEvent e rest).schedule = s.schedule ∧ (s.passEvent e rest).draws = s.draws ∧ (s.passEvent e rest).modelFault = s.modelFault := by
  refine ⟨rfl, rfl, rfl, rfl, rfl, rfl, rfl, rfl, rfl, rfl, rfl, rfl, rfl, rfl, rfl, rfl, rfl, rfl⟩

@[simp] theorem State.fetchToken_frame (s : State) (r : Rle) :
    (s.fetchToken r).params = s.params ∧ (s.fetchToken r).operands = s.operands ∧ (s.fetchToken r).pal = s.pal ∧
    (s.fetchToken r).offx = s.offx ∧ (s.fetchToken r).offy = s.offy ∧ (s.fetchToken r).orient = s.orient ∧
    (s.fetchToken r).status = s.status ∧ (s.fetchToken r).cleared = s.cleared ∧ (s.fetchToken r).current = s.current ∧
    (s.fetchToken r).iter = s.iter ∧ (s.fetchToken r).pending = s.pending ∧ (s.fetchToken r).mem = s.mem ∧
    (s.fetchToken r).raced = s.raced ∧ (s.fetchToken r).accepted = s.accepted ∧ (s.fetchToken r).readData = s.readData ∧
    (s.fetchToken r).schedule = s.schedule ∧ (s.fetchToken r).draws = s.draws ∧ (s.fetchToken r).modelFault = s.modelFault := by
  refine ⟨rfl, rfl, rfl, rfl, rfl, rfl, rfl, rfl, rfl, rfl, rfl, rfl, rfl, rfl, rfl, rfl, rfl, rfl⟩

@[simp] theorem State.resetBlock_frame (s : State) :
    s.resetBlock.params = s.params ∧ s.resetBlock.mem = s.mem ∧ s.resetBlock.accepted = s.accepted ∧
    s.resetBlock.readData = s.readData ∧ s.resetBlock.schedule = s.schedule ∧ s.resetBlock.draws = s.draws ∧
    s.resetBlock.modelFault = s.modelFault := by
  refine ⟨rfl, rfl, rfl, rfl, rfl, rfl, rfl⟩

@[simp] theorem State.setFlag_status (s : State) (f : Flag) : (s.setFlag f).status = s.status ||| f.mask := rfl

@[simp] theorem State.reject_status (s : State) (f : Flag) : (s.reject f).status = s.status ||| f.mask := rfl

@[simp] theorem State.emit_pending (s : State) (es : List Event) : (s.emit es).pending = s.pending ++ es := rfl

@[simp] theorem State.reserve_draws (s : State) (n : Nat) : (s.reserve n).draws = s.draws + n := rfl

@[simp] theorem State.use_modelFault (s : State) (rs : List (RegId × Bool)) : (s.use rs).modelFault = s.modelFault.or (firstUnwritten rs) := rfl

@[simp] theorem State.raiseIf_raised (s : State) (c : Bool) (f : Flag) : (s.raiseIf c f).raised = if c then s.raised ||| f.mask else s.raised := rfl

@[simp] theorem State.noteRange_raised (s : State) (a : Word) :
    (s.noteRange a).raised = if !s.inSource a then s.raised ||| Flag.errSrcRange.mask else s.raised := rfl

@[simp] theorem State.emitPixel_pending (s : State) (k : BitVec 4) : (s.emitPixel k).pending = s.pending ++ pixelEvents (s.palEntry k).value := rfl

@[simp] theorem State.beginCommand_current (s : State) (i : Instr) (es : List Event) : (s.beginCommand i es).current = some i := rfl

@[simp] theorem State.beginCommand_pending (s : State) (i : Instr) (es : List Event) : (s.beginCommand i es).pending = s.pending ++ es := rfl

@[simp] theorem State.beginCommand_status (s : State) (i : Instr) (es : List Event) :
    (s.beginCommand i es).status = s.status ||| busyMask := rfl

@[simp] theorem State.finishDecode_pending (s : State) : s.finishDecode.pending = s.pending ++ [.fin] := rfl

@[simp] theorem State.finishDecode_iter (s : State) : s.finishDecode.iter = none := rfl

@[simp] theorem State.finishDecode_rle (s : State) : s.finishDecode.rle = none := rfl

@[simp] theorem State.passEvent_pending (s : State) (e : Event) (rest : List Event) : (s.passEvent e rest).pending = rest := rfl

@[simp] theorem State.passEvent_accepted (s : State) (e : Event) (rest : List Event) : (s.passEvent e rest).accepted = s.accepted ++ [e] := rfl

@[simp] theorem State.complete_current (s : State) : s.complete.current = none := rfl

@[simp] theorem State.complete_raised (s : State) : s.complete.raised = 0 := rfl

@[simp] theorem State.complete_cleared (s : State) : s.complete.cleared = 0 := rfl

@[simp] theorem State.complete_raced (s : State) : s.complete.raced = [] := rfl

@[simp] theorem State.fetchToken_rle (s : State) (r : Rle) : (s.fetchToken r).rle = some { r with tp := r.tp + 1 } := rfl

end Sys2Proof.Machine
end

