-- ==== Sys2Proof/Laws/Ops.lean ====
section
/-! SUPPORT. One lemma a shared operation: what it can do, stated once, so that a proof cites it and does not unfold it. -/

namespace Sys2Proof.Machine

open Sys2Proof

/-! ## STATUS -/

/-- No sticky flag is BUSY or WIN_OPEN. -/
theorem Flag.mask_low (f : Flag) : f.mask.getLsbD 0 = false ∧ f.mask.getLsbD 1 = false := by
  cases f <;> decide

@[simp] theorem State.busy_setFlag (s : State) (f : Flag) : (s.setFlag f).busy = s.busy := by
  have h := f.mask_low.1
  simp_all [State.busy]

@[simp] theorem State.winOpen_setFlag (s : State) (f : Flag) : (s.setFlag f).winOpen = s.winOpen := by
  have h := f.mask_low.2
  simp_all [State.winOpen]

@[simp] theorem State.busy_reject (s : State) (f : Flag) : (s.reject f).busy = s.busy := s.busy_setFlag f

@[simp] theorem State.winOpen_reject (s : State) (f : Flag) : (s.reject f).winOpen = s.winOpen := s.winOpen_setFlag f

@[simp] theorem State.busy_setFlagIf (s : State) (c : Bool) (f : Flag) : (s.setFlagIf c f).busy = s.busy := by
  cases c
  · rfl
  · exact s.busy_setFlag f

@[simp] theorem State.winOpen_setFlagIf (s : State) (c : Bool) (f : Flag) : (s.setFlagIf c f).winOpen = s.winOpen := by
  cases c
  · rfl
  · exact s.winOpen_setFlag f

@[simp] theorem State.busy_setBusy (s : State) (b : Bool) : (s.setBusy b).busy = b := by
  cases b <;> simp [State.busy, State.setBusy, busyMask]

@[simp] theorem State.winOpen_setBusy (s : State) (b : Bool) : (s.setBusy b).winOpen = s.winOpen := by
  cases b <;> simp [State.winOpen, State.setBusy, busyMask]

@[simp] theorem State.winOpen_setWinOpen (s : State) (b : Bool) : (s.setWinOpen b).winOpen = b := by
  cases b <;> simp [State.winOpen, State.setWinOpen, winOpenMask]

@[simp] theorem State.busy_setWinOpen (s : State) (b : Bool) : (s.setWinOpen b).busy = s.busy := by
  cases b <;> simp [State.busy, State.setWinOpen, winOpenMask]

@[simp] theorem State.busy_statusWrite (s : State) (d : Word) : (s.statusWrite d).busy = s.busy := by
  simp [State.busy, State.statusWrite, stickyMask]

@[simp] theorem State.winOpen_statusWrite (s : State) (d : Word) : (s.statusWrite d).winOpen = s.winOpen := by
  simp [State.winOpen, State.statusWrite, stickyMask]

@[simp] theorem State.busy_complete (s : State) : s.complete.busy = false := by
  simp [State.busy, State.complete, busyMask]

@[simp] theorem State.busy_beginCommand (s : State) (i : Instr) (es : List Event) : (s.beginCommand i es).busy = true := by
  simp [State.busy, busyMask]

@[simp] theorem State.winOpen_beginCommand (s : State) (i : Instr) (es : List Event) :
    (s.beginCommand i es).winOpen = s.winOpen := by
  simp [State.winOpen, busyMask]

/-- Where nothing is raised, a read of STATUS changes no state but the data returned. -/
theorem State.showStatus_of_none {s : State} (h : s.raised = 0) : s.showStatus = s := by
  cases s
  simp_all [State.showStatus, State.shownLate]

/-- A flag that a read of STATUS newly shows is one the command in progress raised. -/
theorem State.showStatus_status_sub (s : State) (n : Nat) (h : s.showStatus.status.getLsbD n = true) :
    s.status.getLsbD n = true ∨ s.raised.getLsbD n = true := by
  simp only [State.showStatus, State.shownLate] at h
  split at h
  · simp_all
  · simp only [BitVec.getLsbD_or, BitVec.getLsbD_and, Bool.or_eq_true, Bool.and_eq_true] at h
    exact h.imp_right And.left

/-! ## Source memory -/

/-- Below `SRC_SIZE`, where the host has not raced with it, a read gives the byte (20_memory.md R52, R53). -/
theorem State.readSource_of_calm {s : State} {a : Word} (key : Nat) (hin : s.inSource a = true) (hr : s.raced = []) :
    s.readSource a key = Memory.read s.mem a.toNat := by
  simp [State.readSource, hin, State.heldBytes, hr]

/-- At or above `SRC_SIZE` a read gives the free value of its key (R52). -/
theorem State.readSource_outside {s : State} {a : Word} (key : Nat) (hout : s.inSource a = false) :
    s.readSource a key = (Config.freeWord key).setWidth 8 := by
  simp [State.readSource, hout]

/-- A read depends on source memory, its raced bytes and its size alone. -/
theorem State.readSource_congr {s t : State} (hp : t.params = s.params) (hm : t.mem = s.mem) (hr : t.raced = s.raced)
    (a : Word) (key : Nat) : t.readSource a key = s.readSource a key := by
  simp [State.readSource, State.inSource, State.heldBytes, hp, hm, hr]

/-- The flag side of a 16-bit read: ERR_SRC_RANGE is raised where either byte lies outside source memory, and nothing else
changes (R52, R54). -/
theorem State.noteRange16_eq (s : State) (a : Word) :
    s.noteRange16 a = { s with
      raised := s.raised ||| if !s.inSource a || !s.inSource (a + 1) then Flag.errSrcRange.mask else 0 } := by
  change (s.noteRange a).raiseIf (!s.inSource (a + 1)) .errSrcRange = _
  simp only [State.noteRange, State.raiseIf]
  cases s.inSource a <;> cases s.inSource (a + 1) <;> simp [BitVec.or_assoc]

/-- The flags of the table lookup (42_decoders.md R150, R151): for a listed identifier those of both elements read, else those
of element 0 and ERR_TILEID. -/
theorem State.noteLookup_eq (s : State) (keys : Nat) :
    s.noteLookup keys = { s with
      raised := s.raised |||
        (if !s.inSource s.operands.tableBase.value || !s.inSource (s.operands.tableBase.value + 1) then
          Flag.errSrcRange.mask else 0) |||
        if s.tileListed keys then
          if !s.inSource s.tableElement || !s.inSource (s.tableElement + 1) then Flag.errSrcRange.mask else 0
        else Flag.errTileId.mask } := by
  unfold State.noteLookup
  cases s.tileListed keys
  · simp [State.noteRange16_eq, State.raiseIf]
  · simp [State.noteRange16_eq, State.inSource]

/-! ## Events and completion -/

/-- The header is 11 events, none of them `End` (30_encoding.md R85). -/
theorem State.header_length (s : State) (x0 y0 x1 y1 : Half) : (s.header x0 y0 x1 y1).length = 11 := rfl

theorem pixelEvents_length (c : Half) : (pixelEvents c).length = 2 := rfl

theorem fin_notMem_pixelEvents (c : Half) : Event.fin ∉ pixelEvents c := by
  simp [pixelEvents]

theorem State.fin_notMem_header (s : State) (x0 y0 x1 y1 : Half) : Event.fin ∉ s.header x0 y0 x1 y1 := by
  simp [State.header, pixelEvents]

/-- What an acceptance can be: nothing offered, an event taken with work left, or the command's last event taken. -/
theorem State.acceptEvent_cases (s : State) :
    (s.pending = [] ∧ s.acceptEvent = s) ∨
      ∃ e rest, s.pending = e :: rest ∧
        (((rest ≠ [] ∨ s.decoding = true) ∧ s.acceptEvent = (s.passEvent e rest).closeOn e) ∨
          (rest = [] ∧ s.decoding = false ∧ s.acceptEvent = ((s.passEvent e rest).closeOn e).complete)) := by
  rcases hp : s.pending with _ | ⟨e, rest⟩
  · exact .inl ⟨rfl, by simp [State.acceptEvent, hp]⟩
  · have hd : ((s.passEvent e rest).closeOn e).decoding = s.decoding := by
      unfold State.closeOn; split <;> rfl
    have hq : ((s.passEvent e rest).closeOn e).pending = rest := by
      unfold State.closeOn; split <;> rfl
    refine .inr ⟨e, rest, rfl, ?_⟩
    simp only [State.acceptEvent, hp, State.completeIfDone, hd, hq]
    by_cases hr : rest = []
    · cases hdec : s.decoding <;> simp [hr]
    · simp [hr]

/-! ## Blits -/

/-- A clip drops an empty tile or an origin off the panel, and nothing else (43_blit.md R170, R171). -/
theorem clip_eq_none_iff (x y w h pw ph : Nat) :
    clip x y w h pw ph = none ↔ w = 0 ∨ h = 0 ∨ pw ≤ x ∨ ph ≤ y := by
  unfold clip; split <;> simp_all

/-- What a clip that keeps the tile gives (R170). -/
theorem clip_eq_some {x y w h pw ph w' h' : Nat} (hc : clip x y w h pw ph = some (w', h')) :
    w' = min w (pw - x) ∧ h' = min h (ph - y) ∧ 1 ≤ w' ∧ 1 ≤ h' ∧ x + w' ≤ pw ∧ y + h' ≤ ph := by
  unfold clip at hc
  split at hc
  · cases hc
  · obtain ⟨rfl, rfl⟩ := by simpa using hc
    omega

/-- A dropped blit only records INFO_DROPPED and the registers it read (R171). -/
theorem blitEnvelope_dropped {s : State} (h : s.clipped = none) (i : Instr) (extra : List Operand) (stride : Nat)
    (base : Word) (keys : Nat → Nat → Nat) :
    blitEnvelope i extra stride base keys s = (s.useOperands clipOperands).setFlag .infoDropped := by
  simp [blitEnvelope, h]

/-- A blit that is not dropped opens its window and starts its decoder (R173). -/
theorem blitEnvelope_started {s : State} {w h : Nat} (hc : s.clipped = some (w, h)) (i : Instr) (extra : List Operand)
    (stride : Nat) (base : Word) (keys : Nat → Nat → Nat) :
    blitEnvelope i extra stride base keys s =
      { ((((((s.useOperands clipOperands).useOperands extra).setFlagIf (s.isClamped w h) .infoClamped).setWinOpen
          true).beginCommand i (s.blitHeader w h)).reserve (keys w h)) with
        iter := some (s.startIter stride base w h) } := by
  simp [blitEnvelope, hc]

/-! ## Decoders -/

/-- The iterator moves to the next pixel in row-major order (42_decoders.md R140). -/
theorem Iter.advance_linear (it : Iter) (hi : it.i < it.visW) :
    it.advance.j * it.visW + it.advance.i = it.j * it.visW + it.i + 1 := by
  unfold Iter.advance
  split
  · simp [Nat.add_assoc]
  · simp [Nat.add_mul]
    omega

/-- A pixel of a run changes the counters, the pending events and the record of unwritten reads alone. -/
theorem runPixel_of_rle {s : State} {r : Rle} (h : s.rle = some r) :
    runPixel s = { (if r.visible then s.emitPixel r.runIdx else s) with
      rle := some { r with p := r.p + 1, runLeft := r.runLeft - 1 } } := by
  simp [runPixel, h]

/-- After `n` pixels of a run the counters have moved by `n`. -/
theorem runPixels_rle {r : Rle} (n : Nat) {s : State} (h : s.rle = some r) :
    (runPixels n s).rle = some { r with p := r.p + n, runLeft := r.runLeft - n } := by
  induction n generalizing s r with
  | zero => exact h
  | succ n ih =>
    have hn := ih (s := runPixel s) (r := { r with p := r.p + 1, runLeft := r.runLeft - 1 }) (by rw [runPixel_of_rle h])
    rw [runPixels, hn]
    simp only [Option.some.injEq, Rle.mk.injEq, true_and, and_true]
    omega

/-- RUN runs exactly where an RLE decoder is in progress (42_decoders.md R152). -/
theorem execRun_of_rle {s : State} {r : Rle} (h : s.rle = some r) (idx len : BitVec 4) :
    execRun idx len s = .next (runPixels (r.runLength len)
      { s with rle := some { r with runIdx := idx, runLeft := r.runLength len } }) := by
  simp [execRun, h]

/-! ## The step -/

/-- A step that goes on has run one instruction or made one move. -/
theorem step_next {s t : State} (h : step s = .next t) :
    (∃ i u, turn s = .run i u ∧ exec i u = .next t) ∨ turn s = .done t := by
  unfold step at h
  cases ht : turn s with
  | run i u => exact .inl ⟨i, u, rfl, by simpa [ht, finishTurn] using h⟩
  | done u =>
    rw [ht] at h
    exact .inr (by cases h; rfl)
  | stop f =>
    rw [ht] at h
    cases h

/-- What a decode action of the block can be. -/
theorem blockTurn_cases (s : State) :
    (∃ r, s.rle = some r ∧ blockTurn s = rleTurn r s) ∨
      (∃ it, s.rle = none ∧ s.iter = some it ∧ blockTurn s = iterTurn it s) ∨
        (s.decoding = false ∧ blockTurn s = .done s) := by
  unfold blockTurn State.decoding
  rcases s.rle with _ | r
  · rcases s.iter with _ | it
    · exact .inr (.inr ⟨rfl, rfl⟩)
    · exact .inr (.inl ⟨it, rfl, rfl, rfl⟩)
  · exact .inl ⟨r, rfl, rfl⟩

/-- A run of one step more. -/
theorem step_of_empty_schedule {s : State} (h : s.schedule = []) :
    step s = finishTurn (if s.decoding then blockTurn s else .done s.acceptEvent) := by
  simp [step, turn, h, idleTurn]

end Sys2Proof.Machine
end

