-- ==== Sys2Proof/Laws/PerInstr.lean ====
section
/-! SUPPORT. A statement made once for every instruction: its encoding is one the spec calls legal (spec/30_encoding.md R75,
R81). -/

namespace Sys2Proof.Laws.EncodesLegally

open Sys2Proof

/-- The instruction is encoded as a legal command word, or as a token, every byte of which is legal. -/
def Statement (i : Instr) : Prop :=
  match encode i with
  | .command d => CommandWord.WellFormed d
  | .token _ => True

theorem nop : Statement .nop := by
  change CommandWord.WellFormed _
  decide

theorem setrot (rot : BitVec 2) : Statement (.setrot rot) := by
  change CommandWord.WellFormed _
  revert rot; decide

theorem window : Statement .window := by
  change CommandWord.WellFormed _
  decide

theorem pixel : Statement .pixel := by
  change CommandWord.WellFormed _
  decide

theorem close : Statement .close := by
  change CommandWord.WellFormed _
  decide

theorem blit1 (fh fv : Bool) : Statement (.blit1 fh fv) := by
  change CommandWord.WellFormed _
  revert fh fv; decide

theorem blit4 (fh fv : Bool) : Statement (.blit4 fh fv) := by
  change CommandWord.WellFormed _
  revert fh fv; decide

theorem blitRle (fh fv : Bool) : Statement (.blitRle fh fv) := by
  change CommandWord.WellFormed _
  revert fh fv; decide

theorem run (idx len : BitVec 4) : Statement (.run idx len) := trivial

end Sys2Proof.Laws.EncodesLegally
end

