-- ==== Sys2Proof/Tests/Slice0.lean ====
section
/-! SUPPORT. Small tests, each on one step; every expected value is a vector or an example of spec/95_test_vectors.md or of
the rule named, or is worked by hand from it. The parameters are those of 95's conventions: a 128 by 160 panel and the
default command bytes of 00_scope.md R7. -/

namespace Sys2Proof.Tests

open Sys2Proof Sys2Proof.Machine

/-- 95's conventions. -/
def vecParams : Params :=
  { nativeW := 128, nativeH := 160, srcSize := 0x1000, cmdCaset := 0x2A, cmdRaset := 0x2B, cmdRamwr := 0x2C }

/-- The state after reset with 95's parameters. -/
def start : State := State.resetWith vecParams

/-- `start` with register writes made and bytes of source memory placed from an address on. -/
def setup (regs : List (RegId × Word)) (at_ : Nat) (bytes : List Byte) : State :=
  { regs.foldl (fun s r => s.storeReg r.1 r.2) start with
    mem := (bytes.zipIdx at_).foldl (fun m b => Memory.write m b.2 b.1) [] }

/-- A field of the next state, if there is one. -/
def after {α : Type} (o : Host.Outcome State Fault Refusal) (f : State → α) : Option α :=
  match o with
  | .next s => some (f s)
  | .fault _ => none
  | .refused _ => none

/-- The operand `o` as a register. -/
def op (o : Operand) : RegId := .operand o

/-- A region iterator: stored and clamped size, stride, base, position. -/
def iterAt (w h vw vh stride : Nat) (base : Word) (i j : Nat) : Iter :=
  { tileW := w, tileH := h, visW := vw, visH := vh, stride := stride, base := base, i := i, j := j, keys := 0 }

/-! ## Decoding and encoding: words written out from 30_encoding.md R73, R74, R81 -/

theorem test_decode_nop : decodeCommand 0b00000000000000000000000000000000#32 = .ok .nop := by decide
theorem test_decode_setrot : decodeCommand 0b00000000000000000000000100000001#32 = .ok (.setrot 1) := by decide
theorem test_decode_window : decodeCommand 0b00000000000000000000000000000010#32 = .ok .window := by decide
theorem test_decode_pixel : decodeCommand 0b00000000000000000000000000000011#32 = .ok .pixel := by decide
theorem test_decode_close : decodeCommand 0b00000000000000000000000000000100#32 = .ok .close := by decide
theorem test_decode_blit1 : decodeCommand 0b00000000000000000000000000010101#32 = .ok (.blit1 true false) := by decide
theorem test_decode_blit4 : decodeCommand 0b00000000000000000000000000100110#32 = .ok (.blit4 false true) := by decide
theorem test_decode_blitrle : decodeCommand 0b00000000000000000000000000110111#32 = .ok (.blitRle true true) := by decide
/-- R81: idx in bits 7:4, len in 3:0. -/
theorem test_decode_run : decodeToken 0b00101111#8 = .run 2 15 := by decide
/-- B-C5: don't-care fields are ignored. -/
theorem test_decode_dont_care :
    decodeCommand 0x00000330#32 = .ok .nop ∧ decodeCommand 0x00000304#32 = .ok .close := by decide
/-- R75: a reserved opcode or a reserved bit. -/
theorem test_decode_reserved :
    decodeCommand 0x00000008#32 = .error (.reservedOpcode 8) ∧ decodeCommand 0x0000000F#32 = .error (.reservedOpcode 15) ∧
      decodeCommand 0x00000400#32 = .error .reservedBits ∧ decodeCommand 0x000000C0#32 = .error .reservedBits := by decide
/-- R89's expansions. -/
theorem test_encode_setrot : encode (.setrot 2) = .command 0x00000201#32 := by decide
theorem test_encode_blit4 : encode (.blit4 true true) = .command 0x00000036#32 := by decide
theorem test_encode_run : encode (.run 2 15) = .token 0x2F#8 := by decide
theorem test_clr_word : clr = .bus (.write 1 0x0007FF00#32) := by decide
theorem test_table_word : decodeTableWord 8 0x14 = some (.run 1 4) ∧ decodeTableWord 32 0x101 = some (.setrot 1) := by
  decide

/-! ## Well-formedness: an ill-formed term for each check -/

theorem test_wf_word : CommandWord.WellFormed 0x00000337#32 := by decide
theorem test_wf_opcode_refused : ¬ CommandWord.WellFormed 0x00000008#32 := by decide
theorem test_wf_middle_refused : ¬ CommandWord.WellFormed 0x00000040#32 := by decide
theorem test_wf_high_refused : ¬ CommandWord.WellFormed 0x80000000#32 := by decide
theorem test_wf_params : vecParams.WellFormed := by decide
theorem test_wf_width_zero_refused : ¬ { vecParams with nativeW := 0 }.WellFormed := by decide
theorem test_wf_height_refused : ¬ { vecParams with nativeH := 161 }.WellFormed := by decide
theorem test_wf_source_refused : ¬ { vecParams with srcSize := 0 }.WellFormed := by decide
/-- A memory with an address out of order, and one that lists an unlisted byte's value. -/
theorem test_memory_wf_refused : Memory.wf [(4, 1), (3, 1)] = false ∧ Memory.wf [(4, 0)] = false := by decide

/-! ## Registers, STATUS and the bus (40_control.md) -/

/-- B-C1. -/
theorem test_write_truncates :
    after (step { start with schedule := [.bus (.write 0x04 0x00010008)] })
      (fun s => (s.operands.tileW, s.status)) = some (⟨8, true⟩, 0) := by decide
/-- B-C2. -/
theorem test_read_panel_height :
    after (step { start with schedule := [rd .panelH] }) State.readData = some 0xA0 := by decide
theorem test_read_reserved : after (step { start with schedule := [.bus (.read 0x13)] }) State.readData = some 0 := by
  decide
/-- R101's example register read back after a write. -/
theorem test_read_written :
    after (step { setup [(.pal 3, 0xF800)] 0 [] with schedule := [.bus (.read 0x23)] }) State.readData = some 0xF800 := by
  decide
/-- B-C3: W1C. -/
theorem test_w1c :
    after (step { start with status := 0x2100, schedule := [.bus (.write 0x01 0x100)] }) State.status = some 0x2000 := by
  decide
theorem test_w1c_ignores_busy :
    after (step { start with status := 0x2003, schedule := [.bus (.write 0x01 0x3)] }) State.status = some 0x2003 := by
  decide
/-- B-C4. -/
theorem test_illegal_register :
    after (step { start with schedule := [.bus (.write 0x3F 0)] }) State.status = some 0x100 ∧
      after (step { start with schedule := [.bus (.write 0x0E 1)] }) State.status = some 0x100 := by decide
theorem test_illegal_word :
    after (step { start with schedule := [.bus (.write 0 0x400)] }) State.status = some 0x100 := by decide
/-- B-C8: the write is refused while BUSY. -/
theorem test_write_while_busy :
    after (step { start with status := 3, schedule := [.bus (.write 0x02 5)] })
      (fun s => (s.status, s.operands.dstX.value)) = some (0x203, 0) := by decide
/-- R71: the register map, end to end of each bank. -/
theorem test_register_map :
    RegId.ofNumber 0x17 = .offx 3 ∧ RegId.ofNumber 0x1B = .offy 3 ∧ RegId.ofNumber 0x2F = .pal 15 ∧
      RegId.ofNumber 0x1C = .reserved 0x1C ∧ RegId.ofNumber 0x30 = .reserved 0x30 := by decide

/-! ## NOP and SETROT -/

theorem test_nop : after (exec .nop start) id = some start := by decide
/-- B-C6. -/
theorem test_setrot :
    after (exec (.setrot 1) (setup [(.offx 1, 1), (.offy 1, 2)] 0 [])) State.orient =
      some { rot := 1, xoff := 1, yoff := 2, panelW := 160, panelH := 128 } := by decide
/-- B-C7. -/
theorem test_setrot_refused :
    after (exec (.setrot 1) { start with status := 2 }) (fun s => (s.status, s.orient.rot)) = some (0x802, 0) := by decide

/-! ## WINDOW, PIXEL, CLOSE (41_window_pixel.md) -/

/-- R121's example. -/
theorem test_window :
    after (exec .window { setup [(op .winX1, 127), (op .winY1, 159)] 0 [] with
        orient := { rot := 0, xoff := 2, yoff := 1, panelW := 128, panelH := 160 } })
      (fun s => (s.pending, s.status)) =
      some ([.cmd 0x2A, .dat 0, .dat 2, .dat 0, .dat 0x81, .cmd 0x2B, .dat 0, .dat 1, .dat 0, .dat 0xA0, .cmd 0x2C], 3) := by
  decide
/-- B-W5: the sums wrap at 16 bits. -/
theorem test_window_wraps :
    after (exec .window { setup [(op .winX1, 1)] 0 [] with
        orient := { rot := 0, xoff := 0xFFFF, yoff := 0, panelW := 128, panelH := 160 } })
      (fun s => s.pending.take 5) = some [.cmd 0x2A, .dat 0xFF, .dat 0xFF, .dat 0, .dat 0] := by decide
/-- R123's example. -/
theorem test_pixel :
    after (exec .pixel { setup [(op .color, 0xF81F)] 0 [] with status := 2 }) (fun s => (s.pending, s.status)) =
      some ([.dat 0xF8, .dat 0x1F], 3) := by decide
/-- B-W2. -/
theorem test_pixel_refused :
    after (exec .pixel (setup [(op .color, 0xF81F)] 0 [])) (fun s => (s.pending, s.status)) = some ([], 0x400) := by decide
/-- R124. -/
theorem test_close : after (exec .close { start with status := 2 }) (fun s => (s.pending, s.status)) = some ([.fin], 1) := by
  decide
/-- B-W3. -/
theorem test_close_idle : after (exec .close start) id = some start := by decide

/-! ## Blits (43_blit.md, 42_decoders.md) -/

/-- B1's registers and memory. -/
def vecB1 : State :=
  setup [(.pal 0, 0xFFFF), (.pal 1, 0), (op .srcBase, 0), (op .dstX, 5), (op .dstY, 7), (op .tileW, 10), (op .tileH, 2)] 0
    [0xA5, 0xC0, 0x00, 0x40]

/-- B1's header and B2's flag. -/
theorem test_blit1_header :
    after (exec (.blit1 true false) vecB1) (fun s => (s.pending, s.status, s.modelFault)) =
      some ([.cmd 0x2A, .dat 0, .dat 5, .dat 0, .dat 0xE, .cmd 0x2B, .dat 0, .dat 7, .dat 0, .dat 8, .cmd 0x2C], 0x40003,
        none) := by decide
/-- B25: an empty tile with a flip. -/
theorem test_blit1_dropped :
    after (exec (.blit1 true false) (setup [(op .dstX, 0), (op .dstY, 0), (op .tileW, 0), (op .tileH, 1)] 0 []))
      (fun s => (s.pending, s.status)) = some ([], 0x50000) := by decide
/-- B1: column 8 of row 0 is bit 7 of byte 1 (0xC0), a 1 bit, so `PAL[0]`. -/
theorem test_mono_pixel :
    (monoMove (iterAt 10 2 10 2 2 0 8 0)
      vecB1).pending = [.dat 0xFF, .dat 0xFF] := by decide
/-- B1: row 1 starts at byte 2; its column 1 is a 0 bit, so `PAL[1]`. -/
theorem test_mono_pixel_row :
    (monoMove (iterAt 10 2 10 2 2 0 1 1)
      vecB1).pending = [.dat 0, .dat 0] := by decide

/-- B10's registers and memory, with Palette P16's entries it uses. -/
def vecB10 : State :=
  setup [(.pal 0x8, 0x1008), (.pal 0xF, 0x100F), (op .srcBase, 0), (op .imgW, 4), (op .tileW, 2), (op .tileH, 2),
      (op .sectionId, 2), (op .dstX, 0), (op .dstY, 0)] 0
    [0x00, 0x01, 0x02, 0x03, 0x04, 0x05, 0x06, 0x07, 0x08, 0x09, 0x0A, 0x0B, 0x0C, 0x1F, 0x0E, 0x0F]

/-- B10: the tile base is 8. -/
theorem test_blit4_base :
    after (exec (.blit4 false false) vecB10) (fun s => (s.iter.map Iter.base, s.status)) = some (some 8, 3) := by decide
/-- B13: refused even where it would be dropped. -/
theorem test_blit4_param :
    after (exec (.blit4 false false) (setup [(op .imgW, 0), (op .dstX, 200)] 0 [])) (fun s => (s.pending, s.status)) =
      some ([], 0x1000) := by decide
/-- B10: the byte 0x1F at address 13 uses entry 0xF and raises ERR_INDEX. -/
theorem test_indexed_pixel_above_15 :
    (fun s : State => (s.pending, s.raised))
      (indexedMove false false (iterAt 2 2 2 2 4 8 1 1) vecB10) = ([.dat 0x10, .dat 0x0F], 0x2000) := by decide
/-- B9: with both flips the first pixel is the tile's last. -/
theorem test_indexed_addr_flipped :
    (Iter.indexedAddr (iterAt 2 2 2 2 4 2 0 0) true true) = 7 := by decide
/-- B9's strides. -/
theorem test_strides :
    strideStart 2 2 2 4 true true = 7 ∧ itXAdder true = 0xFFFFFFFF ∧ itYAdder 4 2 true true = 0xFFFFFFFE := by decide

/-- B18's registers and memory: table at 0, blob at 16. -/
def vecB18 : State :=
  { setup [(.pal 1, 0x1001), (.pal 3, 0x1003), (op .tableBase, 0), (op .srcBase, 16), (op .sectionId, 1), (op .tileW, 2),
      (op .tileH, 1), (op .dstX, 0), (op .dstY, 0)] 0 [0x00, 0x02, 0x00, 0x00, 0x00, 0x02] with
    mem := [(1, 2), (5, 2), (16, 0x11), (17, 0x21), (18, 0x31), (19, 0x41)] }

/-- The iterator of B18's BLITRLE at accept. -/
def iterB18 : Iter :=
  (iterAt 2 1 2 1 0 16 0 0)

theorem test_blitrle_accept :
    after (exec (.blitRle false false) vecB18) (fun s => (s.iter, s.rle, s.status)) = some (some iterB18, none, 3) := by
  decide
/-- B18: the first token is at 18. -/
theorem test_table_lookup :
    (fun s : State => (s.rle.map Rle.tp, s.raised)) (tableMove iterB18 vecB18) = (some 18, 0) := by decide
/-- B17: an identifier at the count starts at the blob and raises ERR_TILEID. -/
theorem test_table_lookup_unlisted :
    (fun s : State => (s.rle.map Rle.tp, s.raised)) (tableMove iterB18 (vecB18.storeReg (op .sectionId) 2)) =
      (some 16, 0x4000) := by decide

/-- An RLE decoder at address 16 of a tile `w` by `h`, clamped to `vw` by `vh`. -/
def rleAt (w h vw vh p : Nat) : Rle :=
  { tileW := w, tileH := h, visW := vw, visH := vh, tp := 16, p := p, runIdx := 0, runLeft := 0, keys := 0 }

/-- B16: the run is cut at the budget. -/
theorem test_run_cut :
    after (exec (.run 1 4) { setup [(.pal 1, 0x1001)] 0 [] with rle := some (rleAt 3 1 3 1 0) })
      (fun s => (s.pending, s.rle.map Rle.p)) =
      some ([.dat 0x10, .dat 1, .dat 0x10, .dat 1, .dat 0x10, .dat 1], some 3) := by decide
/-- B20: only columns below `w'` are emitted. -/
theorem test_run_clamped :
    after (exec (.run 1 3) { setup [(.pal 1, 0x1001)] 0 [] with rle := some (rleAt 4 2 2 2 0) })
      (fun s => (s.pending, s.rle.map Rle.p)) = some ([.dat 0x10, .dat 1, .dat 0x10, .dat 1], some 4) := by decide
/-- B16: the fetched token runs, and the pointer has passed it. -/
theorem test_token_step :
    after (step { setup [(.pal 1, 0x1001)] 16 [0x14, 0x55] with rle := some (rleAt 3 1 3 1 0), schedule := [.block] })
      (fun s => (s.rle.map Rle.tp, s.rle.map Rle.p)) = some (some 17, some 3) := by decide
/-- R155: once the budget is met the decoder emits `End` and reads no token. -/
theorem test_token_stop :
    after (step { start with rle := some (rleAt 3 1 3 1 3), schedule := [.block] }) (fun s => (s.rle, s.pending)) =
      some (none, [.fin]) := by decide

/-! ## Transport, completion, reset, source memory -/

/-- R29: BUSY falls, and with `End` the window closes (R30), when the last event is taken. -/
theorem test_accept_last :
    after (step { start with status := 3, current := some (.blit1 false false), pending := [.fin], schedule := [.accept] })
      (fun s => (s.status, s.accepted, s.current)) = some (0, [.fin], none) := by decide
/-- R205: a raised flag is 1 at completion. -/
theorem test_accept_settles :
    after (step { start with status := 3, raised := 0x2000, pending := [.fin], schedule := [.accept] }) State.status =
      some 0x2000 := by decide
/-- R29: an event before the last leaves BUSY. -/
theorem test_accept_first :
    after (step { start with status := 3, pending := [.dat 1, .dat 2], schedule := [.accept] })
      (fun s => (s.status, s.pending)) = some (3, [.dat 2]) := by decide
/-- R102: a flag cleared and set in one step reads 1. -/
theorem test_clear_then_set :
    after (step { vecB10 with
        status := 0x2003, current := some (.blit4 false false)
        iter := some (iterAt 2 2 2 2 4 8 1 1)
        schedule := [.busWithBlock (.write 1 0x2000)] }) State.status = some 0x2003 := by decide
/-- R230: the pending events are discarded, the accepted ones stay. -/
theorem test_reset_move :
    after (step { start with status := 0x103, pending := [.fin], accepted := [.dat 7], schedule := [.reset none] })
      (fun s => (s.status, s.pending, s.accepted)) = some (0, [], [.dat 7]) := by decide
theorem test_host_store :
    after (step { start with schedule := [.hostStore 5 9] }) (fun s => (s.mem, s.raced)) = some ([(5, 9)], []) := by decide
/-- R62: a byte overwritten while BUSY is kept. -/
theorem test_host_store_races :
    after (step { start with status := 1, mem := [(5, 9)], schedule := [.hostStore 5 0] }) (fun s => (s.mem, s.raced)) =
      some ([], [(5, 9)]) := by decide
/-- R50: the byte at SRC_SIZE does not exist. -/
theorem test_host_store_outside :
    (match step { start with schedule := [.hostStore 0x1000 0] } with
      | .fault .hostStoreOutsideSource => true
      | _ => false) = true := by decide

/-! ## The observation of a run (70_reset_and_hazards.md R242) -/

/-- A host with a transaction to issue has not ended its run, one with none has. -/
theorem test_observation_waits_for_the_host :
    ({ start with schedule := [.accept, .bus (.write 2 1)] } : State).observation = none ∧
      ({ start with schedule := [.reset none] } : State).observation = none ∧
      ({ start with accepted := [.fin], schedule := [.accept] } : State).observation.map Observation.events =
        some [.fin] := by decide
/-- BUSY, and the model fault of R213. -/
theorem test_no_observation :
    ({ start with status := 1 } : State).observation = none ∧
      ({ start with modelFault := some .status } : State).observation = none := by decide
/-- R151: an identifier at or beyond the count reads no element but element 0, so ERR_TILEID alone is raised although
element `S + 1` would lie at SRC_SIZE; R52: a 16-bit read at SRC_SIZE - 1 raises ERR_SRC_RANGE, one
below it does not. -/
theorem test_table_flags :
    (tableMove iterB18 (vecB18.storeReg (op .sectionId) 0x7FF)).raised = 0x4000 ∧
      (start.noteRange16 0xFFF).raised = 0x8000 ∧ (start.noteRange16 0xFFE).raised = 0 := by decide

/-! ## Instructions placed for the next step, from this block's own reset state -/

theorem test_place_window :
    (match step (State.reset.withFetchWord 32 2) with
      | .next s => s.pending.length == 11
      | _ => false) = true := by decide
theorem test_place_run :
    (match step (State.reset.withFetchWord 8 0x2F) with
      | .next _ => true
      | _ => false) = true := by decide

end Sys2Proof.Tests
end

