-- ==== Sys2Proof/Tests/Witnesses.lean ====
section
/-! SUPPORT. For every statement of Certificates/Slice0/Obligations.lean that has hypotheses, a concrete state and operands
that meet them together, one for each clause; `witness_<Name>` belongs to `Obligations.<Name>`. -/

namespace Sys2Proof.Tests

open Sys2Proof Sys2Proof.Machine

/-- `start` with moves to come. -/
def sched (ms : List Move) : State := { start with schedule := ms }

/-- B10's BLIT4 in progress at its last pixel, the header taken. -/
def midBlit4 (ms : List Move) : State :=
  { vecB10 with
    status := 3, current := some (.blit4 false false), iter := some (iterAt 2 2 2 2 4 8 1 1), schedule := ms, draws := 4 }

/-- A BLIT1 of B1 in progress at its first pixel. -/
def midBlit1 (ms : List Move) : State :=
  { vecB1 with
    status := 3, current := some (.blit1 false false), iter := some (iterAt 10 2 10 2 2 0 0 0), schedule := ms }

/-- A BLITRLE of B18 in progress before its table lookup. -/
def midLookup (ms : List Move) : State :=
  { vecB18 with status := 3, current := some (.blitRle false false), iter := some iterB18, schedule := ms }

/-- A BLITRLE of B16 in progress, `p` pixels decoded. -/
def midRle (p : Nat) (ms : List Move) : State :=
  { setup [(.pal 1, 0x1001)] 16 [0x14, 0x55] with
    status := 3, current := some (.blitRle false false), rle := some (rleAt 3 1 3 1 p), schedule := ms }

/-- A command's last event about to be taken, one flag raised and kept, one raised and cleared. -/
def lastEvent : State :=
  { start with
    status := 3, current := some (.blit4 false false), raised := 0xA000, cleared := 0x8000, pending := [.fin]
    schedule := [.accept] }

theorem start_coherent : start.Coherent :=
  ⟨by decide, by decide, by decide, by decide, by decide⟩

theorem midBlit4_coherent : (midBlit4 []).Coherent :=
  ⟨by decide, by decide, by decide, by decide, by decide⟩

theorem midRle_coherent : (midRle 0 [.block]).Coherent :=
  ⟨by decide, by decide, by decide, by decide, by decide⟩

theorem vecB1_coherent : vecB1.Coherent :=
  ⟨by decide, by decide, by decide, by decide, by decide⟩

theorem vecB10_coherent : vecB10.Coherent :=
  ⟨by decide, by decide, by decide, by decide, by decide⟩

theorem vecB18_coherent : vecB18.Coherent :=
  ⟨by decide, by decide, by decide, by decide, by decide⟩

/-- Whether a step goes on. -/
def goesOn (o : Host.Outcome State Fault Refusal) : Bool :=
  match o with
  | .next _ => true
  | .fault _ => false
  | .refused _ => false

theorem exists_next {o : Host.Outcome State Fault Refusal} (h : goesOn o = true) : ∃ t, o = .next t := by
  cases o with
  | next t => exact ⟨t, rfl⟩
  | fault _ => cases h
  | refused _ => cases h

/-! ## Encodings and reset -/

theorem witness_EncodingsAgreeBothWays :
    decodeCommand 0x00000337#32 = .ok (.blitRle true true) ∧ decodeCommand 0x00000331#32 = .ok (.setrot 3) := by decide

theorem witness_ResetAbandonsTheCommand :
    (midBlit4 [.reset (some (.write 1 0))]).schedule = [.reset (some (.write 1 0))] ∧
      (sched [.reset none]).schedule = [.reset none] := by decide

/-! ## Invariants and rules of the whole machine -/

theorem witness_StepKeepsTheBlockCoherent :
    (midBlit4 []).Coherent ∧ ∃ t, step (midBlit4 []) = .next t :=
  ⟨midBlit4_coherent, exists_next (by decide)⟩

theorem witness_StepKeepsReservedStatusBitsZero :
    lastEvent.ReservedClear ∧ (midBlit4 []).ReservedClear ∧ (midBlit4 []).LateOk ∧ ∃ t, step (midBlit4 []) = .next t :=
  ⟨by decide, by decide, by decide, exists_next (by decide)⟩

theorem witness_StepKeepsMemoryCanonical :
    (midBlit4 [.hostStore 8 0]).MemoryOk ∧ ∃ t, step (midBlit4 [.hostStore 8 0]) = .next t :=
  ⟨by decide, exists_next (by decide)⟩

theorem witness_StepKeepsPanelSizeAndParameters :
    (sched [.bus (.write 0 0x101)]).PanelOk ∧ ∃ t, step (sched [.bus (.write 0 0x101)]) = .next t :=
  ⟨by decide, exists_next (by decide)⟩

theorem witness_OnlySetrotAndResetChangeOrientation :
    (∃ t, step (sched [wr (.offx 1) 7]) = .next t) ∧ turn (sched [wr (.offx 1) 7]) =
      .done { start with offx := start.offx.set 1 ⟨7, true⟩ } :=
  ⟨exists_next (by decide), by decide⟩

theorem witness_BusyFreezesPaletteAndOperands :
    (midBlit4 [.bus (.write 0x20 5)]).busy = true ∧ ∃ t, step (midBlit4 [.bus (.write 0x20 5)]) = .next t :=
  ⟨by decide, exists_next (by decide)⟩

theorem witness_OnlyTheHostWritesSourceMemory :
    (∃ t, step (midBlit4 [.hostStore 0 9]) = .next t) ∧ ∃ t, step (midBlit4 [.block]) = .next t :=
  ⟨exists_next (by decide), exists_next (by decide)⟩

theorem witness_EventsAreNeverLostOrReordered : ∃ t, step lastEvent = .next t := exists_next (by decide)

theorem witness_StickyFlagsStayUntilCleared :
    ({ start with status := 0x40100, schedule := [.bus (.write 1 0x400)] } : State).status.getLsbD 8 = true ∧
      ({ start with status := 0x40100, schedule := [.bus (.write 1 0x400)] } : State).status.getLsbD 18 = true ∧
      ∃ t, step { start with status := 0x40100, schedule := [.bus (.write 1 0x400)] } = .next t :=
  ⟨by decide, by decide, exists_next (by decide)⟩

theorem witness_ModelFaultIsNeverCleared :
    ({ start with modelFault := some (.pal 3), schedule := [.reset none] } : State).modelFault = some (.pal 3) ∧
      ∃ t, step { start with modelFault := some (.pal 3), schedule := [.reset none] } = .next t :=
  ⟨by decide, exists_next (by decide)⟩

theorem witness_WrittenMarksStayUntilReset :
    vecB10.operands.written .imgW = true ∧ (vecB10.palEntry 15).written = true ∧ (vecB10.offxEntry 3).written = true ∧
      (vecB10.offyEntry 0).written = true ∧ ∃ t, step vecB10 = .next t :=
  ⟨by decide, by decide, by decide, by decide, exists_next (by decide)⟩

theorem witness_TheBlockNeverStops :
    (match step (sched [.hostStore 0x1000 1]) with
      | .fault .hostStoreOutsideSource => true
      | _ => false) = true := by decide

theorem witness_ReportFlagsChangeNoEvent :
    SameButReports (midBlit4 [.block]) { midBlit4 [.block] with status := 0x7FF03 } ∧
      ∃ t, step (midBlit4 [.block]) = .next t :=
  ⟨⟨by decide, by decide, by decide⟩, exists_next (by decide)⟩

/-! ## The register bus -/

/-- The register numbers at the ends of each clause of R100's order of checks, and both values of BUSY. -/
theorem witness_RegWriteFollowsItsChecks :
    (sched [.bus (.write 0x0E 1)]).schedule = [.bus (.write 0x0E 1)] ∧
      (sched [.bus (.write 0x12 1)]).schedule = [.bus (.write 0x12 1)] ∧
      (midBlit4 [.bus (.write 0x0D 1)]).busy = true ∧ (sched [.bus (.write 0x0D 1)]).busy = false ∧
      (RegId.operand .color).number = 0x0D ∧ (RegId.operand .dstX).number = 0x02 ∧ (RegId.offx 0).number = 0x14 ∧
      (RegId.offy 3).number = 0x1B ∧ (RegId.pal 0).number = 0x20 ∧ (RegId.pal 15).number = 0x2F := by decide

theorem witness_StatusWriteClearsExactlyItsBits :
    (midBlit4 [.busWithBlock (.write 1 0x2000)]).busy = true ∧ (0x2000#32).getLsbD 13 = true ∧
      (State.statusWrite 0x2000 (midBlit4 [])).raisesNow.getLsbD 13 = true ∧
      ∃ t, step (midBlit4 [.busWithBlock (.write 1 0x2000)]) = .next t :=
  ⟨by decide, by decide, by decide, exists_next (by decide)⟩

/-- A read of a register with its mark clear and of one with its mark set. -/
theorem witness_RegReadReturnsTheRegister :
    (sched [.bus (.read 0x04)]).operands.written .tileW = false ∧ RegId.ofNumber 0x04 = .operand .tileW ∧
      vecB10.operands.written .tileW = true ∧ (sched [.bus (.read 0x2F)]).schedule = [.bus (.read 0x2F)] ∧
      RegId.ofNumber 0x13 = .reserved 0x13 ∧ RegId.ofNumber 0x1F = .reserved 0x1F ∧
      RegId.ofNumber 0x30 = .reserved 0x30 := by decide

theorem witness_StepRunsTheDecodedInstruction :
    ((sched [.bus (.write 0 2)]).busy = false ∧ decodeCommand 2 = .ok .window) ∧
      ((midRle 2 [.block]).rle = some (rleAt 3 1 3 1 2) ∧ (rleAt 3 1 3 1 2).p < 3 * 1) := by decide

/-- The first illegal opcode, and each end of the reserved fields. -/
theorem witness_IllegalWordsAreRefused :
    8 ≤ (BitVec.extractLsb' 0 4 (8#32)).toNat ∧ BitVec.extractLsb' 10 22 (0x400#32) ≠ 0 ∧
      BitVec.extractLsb' 10 22 (0x80000000#32) ≠ 0 ∧ BitVec.extractLsb' 6 2 (0x40#32) ≠ 0 ∧
      BitVec.extractLsb' 6 2 (0x80#32) ≠ 0 := by decide

/-- The two clauses of `CommandRefusals`, which every statement about a command contains. -/
theorem witness_CommandRefusals :
    ((midBlit4 [.bus (.write 0 5)]).busy = true ∧ (BitVec.extractLsb' 0 4 (5#32)).toNat = 5) ∧
      ((sched [.bus (.write 0 0x45)]).busy = false ∧ 0x45#32 &&& 0xFFFFFCC0#32 ≠ 0) := by decide

/-! ## Control, window and pixel commands -/

theorem witness_SetrotLoadsTheOrientation :
    start.winOpen = false ∧ ({ start with status := 2 } : State).winOpen = true ∧ (start.offxEntry 3).written = true ∧
      (start.offyEntry 3).written = true := by decide

theorem witness_PixelSendsTheColor :
    start.winOpen = false ∧ ({ start with status := 2 } : State).winOpen = true := by decide

theorem witness_CloseEndsTheWindow :
    start.winOpen = false ∧ ({ start with status := 2 } : State).winOpen = true := by decide

theorem witness_UnwrittenReadsAreRecorded :
    (∀ x ∈ [Operand.imgW], vecB10.operands.written x = true) ∧ vecB10.operands.written .color = false := by decide

/-! ## Blit commands -/

/-- The panel's last column and row, and the first ones off it. -/
theorem witness_ClipKeepsTheTileOnThePanel :
    clip 127 159 4 1 128 160 = some (1, 1) ∧ clip 128 0 4 1 128 160 = none ∧ clip 0 160 4 1 128 160 = none ∧
      clip 0 0 0 1 128 160 = none ∧ clip 0 0 1 0 128 160 = none := by decide

theorem witness_BlitsNeedNoWindowOpen :
    isBlit (.blit1 false false) = true ∧ isBlit (.blit4 true false) = true ∧ isBlit (.blitRle false true) = true ∧
      ({ start with status := 2 } : State).winOpen = true := by decide

theorem witness_Blit4NeedsAnImageWidth : start.winOpen = false ∧ start.operands.imgW.value = 0 := by decide

/-- Each way to be dropped, at its boundary, with an image width for BLIT4. -/
theorem witness_OffPanelAndEmptyBlitsAreDropped :
    let s := vecB10.storeReg (op .dstX) 128
    let t := vecB10.storeReg (op .dstY) 160
    (s.winOpen = false ∧ s.orient.panelW ≤ s.operands.dstX.value ∧ s.operands.imgW.value ≠ 0) ∧
      (t.winOpen = false ∧ t.orient.panelH ≤ t.operands.dstY.value) ∧
      start.operands.tileW.value = 0 ∧ start.operands.tileH.value = 0 := by decide

theorem witness_Blit1IsAccepted :
    vecB1.winOpen = false ∧ vecB1.operands.dstX.value < vecB1.orient.panelW ∧
      vecB1.operands.dstY.value < vecB1.orient.panelH ∧ vecB1.operands.tileW.value ≠ 0 ∧ vecB1.operands.tileH.value ≠ 0 := by
  decide

theorem witness_Blit4IsAccepted :
    vecB10.winOpen = false ∧ vecB10.operands.imgW.value ≠ 0 ∧ vecB10.operands.dstX.value < vecB10.orient.panelW ∧
      vecB10.operands.dstY.value < vecB10.orient.panelH ∧ vecB10.operands.tileW.value ≠ 0 ∧
      vecB10.operands.tileH.value ≠ 0 := by decide

theorem witness_BlitRleIsAccepted :
    vecB18.winOpen = false ∧ vecB18.operands.dstX.value < vecB18.orient.panelW ∧
      vecB18.operands.dstY.value < vecB18.orient.panelH ∧ vecB18.operands.tileW.value ≠ 0 ∧
      vecB18.operands.tileH.value ≠ 0 := by decide

/-- A8's registers: 100 + 38 = 128 + 10; the image width is there for BLIT4. -/
def vecA8 : State :=
  setup [(op .dstX, 100), (op .dstY, 0), (op .tileW, 38), (op .tileH, 1), (op .imgW, 38), (op .srcBase, 0)] 0
    [0xFF, 0xFF, 0xFF, 0xFF, 0xFF]

theorem witness_OverhangingBlitShowsTheRestOfThePanel :
    (vecA8.winOpen = false ∧ vecA8.operands.imgW.value ≠ 0 ∧ vecA8.operands.dstX.value < vecA8.orient.panelW ∧
      vecA8.operands.dstY.value < vecA8.orient.panelH ∧ vecA8.operands.tileH.value ≠ 0 ∧
      vecA8.operands.dstX.value.toNat + vecA8.operands.tileW.value.toNat = vecA8.orient.panelW.toNat + 10) ∧
      ∃ t, exec (.blit1 false false) vecA8 = .next t :=
  ⟨by decide, exists_next (by decide)⟩

theorem witness_InstructionsLeaveRegistersAndMemory :
    (∃ t, exec (.setrot 1) start = .next t) ∧ ∃ t, exec (.run 1 4) (midRle 0 []) = .next t :=
  ⟨exists_next (by decide), exists_next (by decide)⟩

/-! ## Decode actions, events and completion -/

theorem witness_Blit1DecodesMsbFirst :
    (midBlit1 [.block]).schedule = [.block] ∧ (midBlit1 [.block]).current = some (.blit1 false false) ∧
      (midBlit1 [.block]).rle = none ∧ (midBlit1 [.block]).iter = some (iterAt 10 2 10 2 2 0 0 0) ∧ 0 < 2 := by decide

theorem witness_Blit4DecodesTheFlippedTile :
    (midBlit4 [.block]).schedule = [.block] ∧ (midBlit4 [.block]).current = some (.blit4 false false) ∧
      (midBlit4 [.block]).rle = none ∧ (midBlit4 [.block]).iter = some (iterAt 2 2 2 2 4 8 1 1) ∧ 1 < 2 := by decide

/-- A listed identifier, one at the count (B17), and one whose element would lie at SRC_SIZE and is not read; a byte raced with
and one not. -/
theorem witness_TableLookupFindsTheTokens :
    let s := midLookup [.block]
    (s.schedule = [.block] ∧ s.current = some (.blitRle false false) ∧ s.rle = none ∧ s.iter = some iterB18 ∧
      s.tileListed 0 = true ∧ (s.storeReg (op .sectionId) 2).tileListed 0 = false) ∧
    (s.storeReg (op .sectionId) 0x7FF).tableElement = 0x1000 ∧ (s.storeReg (op .sectionId) 0x7FF).tileListed 0 = false ∧
    (0x0FFF#32).toNat < s.params.srcSize ∧ ∀ c ∈ ({ s with raced := [(4, 7)] } : State).raced, c.1 ≠ (5#32).toNat := by
  decide

theorem witness_RunEmitsItsVisiblePixels :
    start.rle = none ∧ (midRle 0 []).rle = some (rleAt 3 1 3 1 0) := by decide

theorem witness_FinishedDecoderEmitsEnd :
    ((midRle 3 [.block]).rle = some (rleAt 3 1 3 1 3) ∧ 3 * 1 ≤ (rleAt 3 1 3 1 3).p) ∧
      (let s : State := { midBlit4 [.block] with iter := some (iterAt 2 2 2 2 4 8 0 2) }
       s.schedule = [.block] ∧ s.rle = none ∧ s.current = some (.blit4 false false) ∧ isBlit (.blit4 false false) = true ∧
         isBlitRle (.blit4 false false) = false ∧ 2 ≤ (iterAt 2 2 2 2 4 8 0 2).j) := by decide

theorem witness_BusyFallsWithTheLastEvent :
    (lastEvent.schedule = [.accept] ∧ lastEvent.LateOk ∧ lastEvent.pending = [.fin]) ∧ (sched [.accept]).pending = [] := by
  decide

theorem witness_RaisedFlagsShowAtCompletion :
    lastEvent.pending = [.fin] ∧ lastEvent.iter = none ∧ lastEvent.rle = none ∧ lastEvent.raised.getLsbD 13 = true ∧
      lastEvent.cleared.getLsbD 13 = false ∧ lastEvent.cleared.getLsbD 15 = true := by decide

/-- The last byte that exists, while BUSY and while idle. -/
theorem witness_HostWritesRaceOnlyWhileBusy :
    let s := midBlit4 [.hostStore 0xFFF 1]
    let t := sched [.hostStore 0xFFF 1]
    (s.busy = true ∧ Memory.wf s.mem = true ∧ s.raced = [] ∧ 0xFFF < s.params.srcSize) ∧
      (t.busy = false ∧ Memory.wf t.mem = true ∧ t.raced = []) := by decide

theorem witness_EveryCommandCompletes : (midBlit4 []).Coherent ∧ (midBlit4 []).schedule = [] ∧ (midBlit4 []).busy = true :=
  ⟨midBlit4_coherent, by decide, by decide⟩

/-! ## Whole blits -/

theorem witness_Blit1EmitsItsPicture :
    vecB1.Coherent ∧ vecB1.busy = false ∧ vecB1.winOpen = false ∧ vecB1.schedule = [] ∧ vecB1.clipped = some (10, 2) :=
  ⟨vecB1_coherent, by decide, by decide, by decide, by decide⟩

theorem witness_Blit4EmitsItsPicture :
    vecB10.Coherent ∧ vecB10.busy = false ∧ vecB10.winOpen = false ∧ vecB10.schedule = [] ∧ vecB10.operands.imgW.value ≠ 0 ∧
      vecB10.clipped = some (2, 2) :=
  ⟨vecB10_coherent, by decide, by decide, by decide, by decide, by decide⟩

theorem witness_BlitRleEmitsItsPicture :
    vecB18.Coherent ∧ vecB18.busy = false ∧ vecB18.winOpen = false ∧ vecB18.schedule = [] ∧ vecB18.clipped = some (2, 1) :=
  ⟨vecB18_coherent, by decide, by decide, by decide, by decide⟩

theorem witness_RleColorsFillTheWindow : (rleAt 4 2 2 2 0).Ok ∧ (rleAt 4 2 2 2 0).p = 0 := by decide

/-- B22's blob as a 4 by 1 tile: tokens 0x01 and 0x31, runs 2 and 2. -/
def vecB22 : State :=
  { setup [(.pal 0, 0x1000), (.pal 3, 0x1003)] 16 [0x01, 0x31] with
    status := 3, current := some (.blitRle false false), rle := some (rleAt 4 1 4 1 0) }

/-- B22's tokens as index and length fields. -/
def tokensB22 : List (BitVec 4 × BitVec 4) := [(0, 1), (3, 1)]

theorem witness_RleRoundTripReproducesTheTile :
    vecB22.rle = some (rleAt 4 1 4 1 0) ∧ vecB22.schedule = [] ∧ vecB22.raced = [] ∧ vecB22.params.srcSize ≤ 2 ^ 32 ∧
      (rleAt 4 1 4 1 0).tp.toNat + tokensB22.length ≤ vecB22.params.srcSize ∧
      (∀ m (hm : m < tokensB22.length),
        Memory.read vecB22.mem ((rleAt 4 1 4 1 0).tp.toNat + m) = tokensB22[m].1 ++ tokensB22[m].2) ∧
      (tokensB22.map fun t => t.2.toNat + 1).sum = 4 * 1 := by
  refine ⟨by decide, by decide, by decide, by decide, by decide, ?_, by decide⟩
  decide

theorem witness_StrideFormFollowsTheCoordinates : 1 ≤ 2 ∧ 2 ≤ 2 ∧ 3 < 2 * 2 := by decide

theorem witness_RepeatedBlit4EmitsTheSameEvents :
    vecB10.Coherent ∧ vecB10.clipped = some (2, 2) ∧
      ∀ n, n < 2 * 2 →
        vecB10.inSource (((vecB10.startIter vecB10.operands.imgW.value.toNat vecB10.tileBase 2 2).at n).indexedAddr
          true false) = true :=
  ⟨vecB10_coherent, by decide, by decide⟩

/-! ## The end of a run -/

/-- An ended run with moves of the transport and a host write to come. -/
theorem witness_EndedRunsKeepTheirObservation :
    (sched [.accept, .hostStore 5 9]).Coherent ∧ (sched [.accept, .hostStore 5 9]).observation.isSome = true ∧
      ∃ t, step (sched [.accept, .hostStore 5 9]) = .next t :=
  ⟨⟨by decide, by decide, by decide, by decide, by decide⟩, by decide, exists_next (by decide)⟩

end Sys2Proof.Tests
end

section
/-! # What no instruction changes

The frame of `exec` over all instructions (00_scope.md R11): an instruction acts on STATUS, the hidden execution state, the
pending events and the model's own records, and SETROT on the orientation state besides. -/

namespace Sys2Proof.Machine

open Sys2Proof

/-- The part of the state no instruction but SETROT changes: what instructions may change is blanked, and the registers, source
memory, the ports' other ends and the flags raised or cleared late stay. -/
def State.kept (s : State) : State :=
  { s with status := 0, current := none, iter := none, rle := none, pending := [], draws := 0, modelFault := none }

/-- Two states agree on their kept parts, the orientation state aside, exactly when they agree on each of these fields. -/
theorem State.kept_butOrient_iff (s t : State) :
    t.kept = { s.kept with orient := t.orient } ↔
      t.params = s.params ∧ t.operands = s.operands ∧ t.pal = s.pal ∧ t.offx = s.offx ∧ t.offy = s.offy ∧
        t.mem = s.mem ∧ t.raced = s.raced ∧ t.accepted = s.accepted ∧ t.readData = s.readData ∧
        t.schedule = s.schedule ∧ t.raised = s.raised ∧ t.cleared = s.cleared := by
  simp only [State.kept, State.mk.injEq]
  tauto

/-- Two states agree on their kept parts exactly when they agree on the orientation state and on the rest. -/
theorem State.kept_eq_iff (s t : State) :
    t.kept = s.kept ↔ t.orient = s.orient ∧ t.kept = { s.kept with orient := t.orient } := by
  simp only [State.kept, State.mk.injEq]
  tauto

/-! ## The operations on the state -/

@[simp] theorem State.kept_setFlagIf (s : State) (c : Bool) (f : Flag) : (s.setFlagIf c f).kept = s.kept := rfl

@[simp] theorem State.kept_reject (s : State) (f : Flag) : (s.reject f).kept = s.kept := rfl

@[simp] theorem State.kept_setWinOpen (s : State) (b : Bool) : (s.setWinOpen b).kept = s.kept := rfl

@[simp] theorem State.kept_useOperands (s : State) (os : List Operand) : (s.useOperands os).kept = s.kept := rfl

@[simp] theorem State.kept_beginCommand (s : State) (i : Instr) (es : List Event) :
    (s.beginCommand i es).kept = s.kept := rfl

@[simp] theorem State.kept_rle (s : State) (r : Option Rle) : { s with rle := r }.kept = s.kept := rfl

@[simp] theorem State.kept_blitEnvelope (s : State) (i : Instr) (extra : List Operand) (stride : Nat) (base : Word)
    (keys : Nat → Nat → Nat) : (blitEnvelope i extra stride base keys s).kept = s.kept := by
  rcases hc : s.clipped with _ | ⟨w, h⟩
  · simp [blitEnvelope_dropped hc, State.kept]
  · simp [blitEnvelope_started hc, State.kept]

@[simp] theorem State.kept_runPixel (s : State) : (runPixel s).kept = s.kept := by
  rcases hr : s.rle with _ | r
  · simp [runPixel, hr]
  · cases hv : r.visible <;> simp [runPixel_of_rle hr, hv, State.kept]

@[simp] theorem State.kept_runPixels (n : Nat) (s : State) : (runPixels n s).kept = s.kept := by
  induction n generalizing s with
  | zero => rfl
  | succ n ih => rw [runPixels, ih, State.kept_runPixel]

/-! ## The instructions -/

/-- An outcome that is a next state keeps what `s` holds. -/
def Keeps (s : State) (o : Host.Outcome State Fault Refusal) : Prop := ∀ t, o = .next t → t.kept = s.kept

@[simp] theorem keeps_next (s u : State) : Keeps s (.next u) ↔ u.kept = s.kept := by
  simp [Keeps]

theorem keeps_refused (s : State) (r : Refusal) : Keeps s (.refused r) := by
  simp [Keeps]

theorem execWindow_keeps (s : State) : Keeps s (execWindow s) := by
  simp [execWindow]

theorem execPixel_keeps (s : State) : Keeps s (execPixel s) := by
  unfold execPixel
  split <;> simp

theorem execClose_keeps (s : State) : Keeps s (execClose s) := by
  unfold execClose
  split <;> simp

theorem execBlit1_keeps (fh fv : Bool) (s : State) : Keeps s (execBlit1 fh fv s) := by
  unfold execBlit1
  split <;> simp

theorem execBlit4_keeps (fh fv : Bool) (s : State) : Keeps s (execBlit4 fh fv s) := by
  unfold execBlit4
  split
  · simp
  · split <;> simp

theorem execBlitRle_keeps (fh fv : Bool) (s : State) : Keeps s (execBlitRle fh fv s) := by
  unfold execBlitRle
  split <;> simp

theorem execRun_keeps (idx len : BitVec 4) (s : State) : Keeps s (execRun idx len s) := by
  rcases hr : s.rle with _ | r
  · rw [execRun, hr]
    exact keeps_refused s .noTokenStream
  · simp [execRun_of_rle hr]

/-- SETROT, refused or not, keeps everything but the orientation state (40_control.md R105). -/
theorem execSetrot_kept {rot : BitVec 2} {s t : State} (h : execSetrot rot s = .next t) :
    t.kept = { s.kept with orient := t.orient } := by
  unfold execSetrot at h
  split at h <;> cases h <;> rfl

/-- Every instruction but SETROT keeps the orientation state and the rest. -/
theorem exec_keeps {i : Instr} (hi : ∀ r, i ≠ .setrot r) (s : State) : Keeps s (exec i s) := by
  cases i with
  | nop => exact (keeps_next s s).mpr rfl
  | setrot rot => exact absurd rfl (hi rot)
  | window => exact execWindow_keeps s
  | pixel => exact execPixel_keeps s
  | close => exact execClose_keeps s
  | blit1 fh fv => exact execBlit1_keeps fh fv s
  | blit4 fh fv => exact execBlit4_keeps fh fv s
  | blitRle fh fv => exact execBlitRle_keeps fh fv s
  | run idx len => exact execRun_keeps idx len s

/-- Every instruction, SETROT included, keeps everything but the orientation state. -/
theorem exec_kept {i : Instr} {s t : State} (h : exec i s = .next t) : t.kept = { s.kept with orient := t.orient } := by
  by_cases hi : ∃ r, i = .setrot r
  · obtain ⟨rot, rfl⟩ := hi
    exact execSetrot_kept h
  · exact ((State.kept_eq_iff s t).mp (exec_keeps (not_exists.mp hi) s t h)).2

/-- Every instruction but SETROT leaves the orientation state as it was (10_state.md R27). -/
theorem exec_orient {i : Instr} (hi : ∀ r, i ≠ .setrot r) {s t : State} (h : exec i s = .next t) :
    t.orient = s.orient :=
  ((State.kept_eq_iff s t).mp (exec_keeps hi s t h)).1

end Sys2Proof.Machine

namespace Sys2Proof

open Sys2Proof.Machine

/-- Settles O39, by the kept part of the state: every instruction keeps it but for the orientation state, and all but SETROT
keep that too. -/
theorem instructionsLeaveRegistersAndMemory : Obligations.InstructionsLeaveRegistersAndMemory := by
  intro i s t h
  obtain ⟨hparams, hoperands, hpal, hoffx, hoffy, hmem, hrest⟩ := (State.kept_butOrient_iff s t).mp (exec_kept h)
  exact ⟨hparams, hoperands, hpal, hoffx, hoffy, fun hi => exec_orient hi h, fun a => by rw [hmem], hmem, hrest⟩

end Sys2Proof
end

section
/-! # What a step can do

One inversion lemma for the step (`step_effect`): a step that goes on is a bus transaction, a command dispatched to an idle
block, a decode action, an acceptance, a host write to source memory or a reset. What each of these changes is said once, by
the constructors of `DecodeAction`, `BlockEffect`, `ExecEffect` and `BusEffect`, and every invariant of the block is proved from
them. -/

namespace Sys2Proof.Machine

open Sys2Proof

/-! ## Masks -/

/-- Every bit of `x` is a bit of `m`. -/
def Within (x m : Word) : Prop := x &&& ~~~m = 0

theorem within_iff (x m : Word) : Within x m ↔ ∀ n, x.getLsbD n = true → m.getLsbD n = true := by
  constructor
  · intro h n hx
    have hn := congrArg (BitVec.getLsbD · n) h
    simpa [hx, BitVec.lt_of_getLsbD hx] using hn
  · intro h
    refine BitVec.eq_of_getLsbD_eq fun n hn => ?_
    have hbit := h n
    cases hx : x.getLsbD n <;> simp_all

theorem Within.zero (m : Word) : Within 0 m := by simp [Within]

theorem Within.or {x y m : Word} (hx : Within x m) (hy : Within y m) : Within (x ||| y) m := by
  simp only [within_iff, BitVec.getLsbD_or, Bool.or_eq_true] at *
  exact fun n hn => hn.elim (hx n) (hy n)

theorem Within.and {x m : Word} (hx : Within x m) (y : Word) : Within (x &&& y) m := by
  simp only [within_iff, BitVec.getLsbD_and, Bool.and_eq_true] at *
  exact fun n hn => hx n hn.1

theorem Within.trans {x m k : Word} (hx : Within x m) (hm : Within m k) : Within x k := by
  simp only [within_iff] at *
  exact fun n hn => hm n (hx n hn)

theorem Within.ite {x y m : Word} (c : Prop) [Decidable c] (hx : Within x m) (hy : Within y m) :
    Within (if c then x else y) m := by
  split
  · exact hx
  · exact hy

theorem and_lateMask_within (x : Word) : Within (x &&& lateMask) lateMask := by
  simp [within_iff]

theorem errSrcRange_within : Within Flag.errSrcRange.mask lateMask := by unfold Within; decide

theorem errTileId_within : Within Flag.errTileId.mask lateMask := by unfold Within; decide

theorem errIndex_within : Within Flag.errIndex.mask lateMask := by unfold Within; decide

/-! ## Decode actions -/

/-- The late flags `x` are raised (60_exceptions.md R205). -/
def State.raiseLate (x : Word) (s : State) : State := { s with raised := s.raised ||| x }

theorem State.raiseIf_eq_raiseLate (s : State) (c : Bool) (f : Flag) :
    s.raiseIf c f = s.raiseLate (if c then f.mask else 0) := by
  cases c <;> simp [State.raiseIf, State.raiseLate]

theorem State.raiseLate_raiseLate (s : State) (x y : Word) : (s.raiseLate x).raiseLate y = s.raiseLate (x ||| y) := by
  simp [State.raiseLate, BitVec.or_assoc]

theorem State.noteRange_eq_raiseLate (s : State) (a : Word) :
    s.noteRange a = s.raiseLate (if !s.inSource a then Flag.errSrcRange.mask else 0) :=
  s.raiseIf_eq_raiseLate _ _

/-- What one decode action does, the flags it raises aside: `End` after the last pixel, a pixel of the region iterator, the
table lookup of a BLITRLE, or a token of one (42_decoders.md R144, R148, R150, R152, R155). -/
inductive DecodeAction (s : State) : State → Prop where
  | finish : DecodeAction s s.finishDecode
  | pixel {it it' : Iter} {es : List Event} {f : Option RegId} (iter : s.iter = some it) (pixels : Event.fin ∉ es)
      (sound : it.Ok → it'.Ok) :
      DecodeAction s
        { s with pending := s.pending ++ es, modelFault := s.modelFault.or f, iter := some it' }
  | lookup {it : Iter} {r : Rle} {fh fv : Bool} (iter : s.iter = some it) (command : s.current = some (.blitRle fh fv))
      (sound : it.Ok → r.Ok) : DecodeAction s { s with iter := none, rle := some r }
  | token {r r' : Rle} {es : List Event} {f : Option RegId} (rle : s.rle = some r) (pixels : Event.fin ∉ es)
      (sound : r.Ok → r'.Ok) :
      DecodeAction s
        { s with pending := s.pending ++ es, modelFault := s.modelFault.or f, rle := some r' }

/-- A decode action neither reads nor changes STATUS and the raised flags. -/
theorem DecodeAction.setAfterClear {s t : State} (h : DecodeAction s t) (m b : Word) :
    DecodeAction (s.setAfterClear m b) (t.setAfterClear m b) := by
  cases h with
  | finish => exact .finish
  | pixel iter pixels sound => exact .pixel (s := s.setAfterClear m b) iter pixels sound
  | lookup iter command sound => exact .lookup (s := s.setAfterClear m b) iter command sound
  | token rle pixels sound => exact .token (s := s.setAfterClear m b) rle pixels sound

/-- The next position of an unfinished region iterator is a pixel of the clamped tile or the end of it (42_decoders.md R140). -/
theorem Iter.advance_ok {it : Iter} (h : it.Ok) (hleft : it.finished = false) : it.advance.Ok := by
  obtain ⟨hclamp, hi, hj, -⟩ := h
  have hrow : it.j < it.visH := by simpa [Iter.finished] using hleft
  unfold Iter.advance
  split
  · next hcol => exact ⟨hclamp, hcol, hj, fun hend => absurd hend (by dsimp; omega)⟩
  · exact ⟨hclamp, by dsimp; omega, hrow, fun _ => rfl⟩

theorem monoMove_action {s : State} {it : Iter} (hit : s.iter = some it) :
    ∃ x, Within x lateMask ∧ DecodeAction (s.raiseLate x) (monoMove it s) := by
  unfold monoMove
  split
  · exact ⟨0, .zero _, by simpa [State.raiseLate] using DecodeAction.finish (s := s)⟩
  · next hleft =>
    rw [s.noteRange_eq_raiseLate]
    exact ⟨_, .ite _ errSrcRange_within (.zero _),
      .pixel (s := s.raiseLate _) hit (fin_notMem_pixelEvents _) fun h => Iter.advance_ok h (by simpa using hleft)⟩

theorem indexedMove_action {s : State} {it : Iter} (hit : s.iter = some it) (fh fv : Bool) :
    ∃ x, Within x lateMask ∧ DecodeAction (s.raiseLate x) (indexedMove fh fv it s) := by
  unfold indexedMove
  split
  · exact ⟨0, .zero _, by simpa [State.raiseLate] using DecodeAction.finish (s := s)⟩
  · next hleft =>
    simp only [State.noteRange_eq_raiseLate, State.raiseIf_eq_raiseLate, State.raiseLate_raiseLate]
    exact ⟨_, .or (.ite _ errSrcRange_within (.zero _)) (.ite _ errIndex_within (.zero _)),
      .pixel (s := s.raiseLate _) hit (fin_notMem_pixelEvents _) fun h => Iter.advance_ok h (by simpa using hleft)⟩

theorem tableMove_action {s : State} {it : Iter} {fh fv : Bool} (hit : s.iter = some it)
    (hcmd : s.current = some (.blitRle fh fv)) :
    ∃ x, Within x lateMask ∧ DecodeAction (s.raiseLate x) (tableMove it s) := by
  unfold tableMove
  rw [s.noteLookup_eq, BitVec.or_assoc]
  exact ⟨_, .or (.ite _ errSrcRange_within (.zero _))
      (.ite _ (.ite _ errSrcRange_within (.zero _)) errTileId_within),
    .lookup (s := s.raiseLate _) hit hcmd fun h => ⟨h.1, Nat.zero_le _, rfl⟩⟩

/-- A pixel of a run, seen as what it appends and records. -/
theorem runPixel_eq {s : State} {r : Rle} (h : s.rle = some r) :
    ∃ es f, Event.fin ∉ es ∧ runPixel s = { s with
      pending := s.pending ++ es, modelFault := s.modelFault.or f
      rle := some { r with p := r.p + 1, runLeft := r.runLeft - 1 } } := by
  rw [runPixel_of_rle h]
  split
  · exact ⟨_, _, fin_notMem_pixelEvents _, rfl⟩
  · exact ⟨[], none, by simp, by simp⟩

theorem runPixels_eq {r : Rle} (n : Nat) {s : State} (h : s.rle = some r) :
    ∃ es f, Event.fin ∉ es ∧ runPixels n s = { s with
      pending := s.pending ++ es, modelFault := s.modelFault.or f
      rle := some { r with p := r.p + n, runLeft := r.runLeft - n } } := by
  induction n generalizing s r with
  | zero => exact ⟨[], none, by simp, by simp [runPixels, ← h]⟩
  | succ n ih =>
    obtain ⟨es, f, hes, hone⟩ := runPixel_eq h
    obtain ⟨es', f', hes', hrest⟩ :=
      ih (s := runPixel s) (r := { r with p := r.p + 1, runLeft := r.runLeft - 1 }) (by rw [hone])
    refine ⟨es ++ es', f.or f', by simp [hes, hes'], ?_⟩
    rw [runPixels, hrest, hone]
    simp [Option.or_assoc, Nat.add_assoc, Nat.add_comm 1, Nat.sub_sub]

/-- RUN decodes its run (42_decoders.md R152): the count stays within the budget and no run is left over. -/
theorem execRun_action {s t : State} {r : Rle} {idx len : BitVec 4} (hr : s.rle = some r)
    (h : execRun idx len s = .next t) :
    ∃ es f r', Event.fin ∉ es ∧ (r.Ok → r'.Ok) ∧
      t = { s with pending := s.pending ++ es, modelFault := s.modelFault.or f, rle := some r' } := by
  rw [execRun_of_rle hr] at h
  obtain ⟨es, f, hes, hrun⟩ := runPixels_eq (r.runLength len)
    (s := { s with rle := some { r with runIdx := idx, runLeft := r.runLength len } }) rfl
  rw [hrun] at h
  cases h
  refine ⟨es, f, _, hes, ?_, rfl⟩
  rintro ⟨hclamp, hp, -⟩
  refine ⟨hclamp, ?_, ?_⟩
  · change r.p + min _ (r.budget - r.p) ≤ r.budget
    omega
  · exact Nat.sub_self _

/-- A decode action that a region iterator drives is one of its decoder's, or none where the command has no decoder. -/
theorem iterTurn_action {s : State} {it : Iter} (hit : s.iter = some it) :
    iterTurn it s = .done s ∨
      ∃ u x, iterTurn it s = .done u ∧ Within x lateMask ∧ DecodeAction (s.raiseLate x) u := by
  unfold iterTurn
  split
  · exact .inr ⟨_, (monoMove_action hit).imp fun x hx => ⟨rfl, hx⟩⟩
  · exact .inr ⟨_, (indexedMove_action hit _ _).imp fun x hx => ⟨rfl, hx⟩⟩
  · next hcmd => exact .inr ⟨_, (tableMove_action hit hcmd).imp fun x hx => ⟨rfl, hx⟩⟩
  · exact .inl rfl

/-- A turn of the block, followed by what the transaction of the same step leaves to be done after it. -/
theorem blockTurn_action {s t : State} {m b : Word}
    (h : finishTurn ((blockTurn s).map (State.setAfterClear m b)) = .next t) :
    t = s.setAfterClear m b ∨
      s.decoding = true ∧ ∃ x, Within x lateMask ∧ DecodeAction ((s.raiseLate x).setAfterClear m b) t := by
  rcases blockTurn_cases s with ⟨r, hr, hturn⟩ | ⟨it, -, hit, hturn⟩ | ⟨-, hturn⟩
  · refine .inr ⟨by simp [State.decoding, hr], ?_⟩
    rw [hturn, rleTurn] at h
    split at h
    · cases h
      exact ⟨0, .zero _, by simpa [State.raiseLate] using (DecodeAction.finish (s := s)).setAfterClear m b⟩
    · obtain ⟨es, f, r', hes, hok, rfl⟩ :=
        execRun_action (s := (s.fetchToken r).setAfterClear m b) (r := { r with tp := r.tp + 1 }) rfl h
      rw [State.fetchToken, s.noteRange_eq_raiseLate]
      exact ⟨_, .ite _ errSrcRange_within (.zero _), .token (s := (s.raiseLate _).setAfterClear m b) hr hes hok⟩
  · rcases iterTurn_action hit with hnone | ⟨u, x, hdone, hx, haction⟩
    · rw [hturn, hnone] at h
      cases h
      exact .inl rfl
    · rw [hturn, hdone] at h
      cases h
      exact .inr ⟨by simp [State.decoding, hit], x, hx, haction.setAfterClear m b⟩
  · rw [hturn] at h
    cases h
    exact .inl rfl

/-- The late flags `x` are raised, and those of `y` show. -/
def State.report (x y : Word) (s : State) : State := { s with status := s.status ||| y, raised := s.raised ||| x }

/-- What the block does in a step in which it may act: nothing, or one decode action, with the late flags it raises and those
of them that show at once (40_control.md R102). -/
inductive BlockEffect (s : State) : State → Prop where
  | none : BlockEffect s s
  | act {x y : Word} {t : State} (work : s.decoding = true) (raised : Within x lateMask) (shown : Within y lateMask)
      (action : DecodeAction (s.report x y) t) : BlockEffect s t

theorem sameStepBlock_effect {s t : State} {m : Word} (h : finishTurn (sameStepBlock m s) = .next t) :
    BlockEffect s t := by
  rcases blockTurn_action h with rfl | ⟨hwork, x, hx, haction⟩
  · simpa [State.setAfterClear] using BlockEffect.none (s := s)
  · exact .act hwork hx (hx.and m) (by simpa [State.setAfterClear, State.raiseLate, State.report] using haction)

theorem blockTurn_effect {s t : State} (h : finishTurn (blockTurn s) = .next t) : BlockEffect s t := by
  have hmap : (blockTurn s).map (State.setAfterClear 0 0) = blockTurn s := by
    cases blockTurn s <;> simp [Turn.map, State.setAfterClear]
  rw [← hmap] at h
  rcases blockTurn_action h with rfl | ⟨hwork, x, hx, haction⟩
  · simpa [State.setAfterClear] using BlockEffect.none (s := s)
  · exact .act hwork hx (.zero _) (by simpa [State.setAfterClear, State.raiseLate, State.report] using haction)

/-! ## Instructions -/

/-- What an instruction that goes on does. A blit starts after noting the register or the flips it looks at first (43_blit.md
R174 to R176). -/
inductive ExecEffect (s : State) : Instr → State → Prop where
  | same (i : Instr) : ExecEffect s i s
  | rejected (i : Instr) (f : Flag) : ExecEffect s i (s.reject f)
  | noWidth (fh fv : Bool) : ExecEffect s (.blit4 fh fv) ((s.useOperands [.imgW]).reject .errParam)
  | setrot (rot : BitVec 2) (closed : s.winOpen = false) :
      ExecEffect s (.setrot rot) { s.useOffsets rot with orient := s.orientationFor rot }
  | window :
      ExecEffect s .window
        (((s.useOperands [.dstX, .dstY, .winX1, .winY1]).setWinOpen true).beginCommand .window s.windowHeader)
  | pixel (opened : s.winOpen = true) :
      ExecEffect s .pixel ((s.useOperands [.color]).beginCommand .pixel (pixelEvents s.operands.color.value))
  | close (opened : s.winOpen = true) : ExecEffect s .close ((s.setWinOpen false).beginCommand .close [.fin])
  | blit {i : Instr} {u : State} (kind : isBlit i = true) (closed : s.winOpen = false)
      (start : u = s.useOperands [.imgW] ∨ ∃ c, u = s.setFlagIf c .infoFlipIgnored) (extra : List Operand) (stride : Nat)
      (base : Word) (keys : Nat → Nat → Nat) : ExecEffect s i (blitEnvelope i extra stride base keys u)
  | run {idx len : BitVec 4} {r r' : Rle} {es : List Event} {f : Option RegId} (rle : s.rle = some r)
      (pixels : Event.fin ∉ es) (sound : r.Ok → r'.Ok) :
      ExecEffect s (.run idx len)
        { s with pending := s.pending ++ es, modelFault := s.modelFault.or f, rle := some r' }

theorem exec_effect {i : Instr} {s t : State} (h : exec i s = .next t) : ExecEffect s i t := by
  cases i with
  | nop =>
    cases h
    exact .same _
  | setrot rot =>
    simp only [exec, execSetrot] at h
    split at h <;> cases h
    · exact .rejected _ _
    · next hclosed => exact .setrot rot (by simpa using hclosed)
  | window =>
    cases h
    exact .window
  | pixel =>
    simp only [exec, execPixel] at h
    split at h <;> cases h
    · next hopened => exact .pixel hopened
    · exact .rejected _ _
  | close =>
    simp only [exec, execClose] at h
    split at h <;> cases h
    · next hopened => exact .close hopened
    · exact .same _
  | blit1 fh fv =>
    simp only [exec, execBlit1] at h
    split at h <;> cases h
    · exact .rejected _ _
    · next hclosed => exact .blit rfl (by simpa using hclosed) (.inr ⟨_, rfl⟩) _ _ _ _
  | blit4 fh fv =>
    simp only [exec, execBlit4] at h
    split at h
    · cases h
      exact .rejected _ _
    · next hclosed =>
      split at h <;> cases h
      · exact .noWidth fh fv
      · exact .blit rfl (by simpa using hclosed) (.inl rfl) _ _ _ _
  | blitRle fh fv =>
    simp only [exec, execBlitRle] at h
    split at h <;> cases h
    · exact .rejected _ _
    · next hclosed => exact .blit rfl (by simpa using hclosed) (.inr ⟨_, rfl⟩) _ _ _ _
  | run idx len =>
    rcases hr : s.rle with _ | r
    · simp [exec, execRun, hr] at h
    · obtain ⟨es, f, r', hes, hsound, rfl⟩ := execRun_action hr h
      exact .run hr hes hsound

/-! ## Bus transactions -/

/-- What a bus transaction does where it dispatches no command (40_control.md R100 to R102). -/
inductive BusEffect (s : State) : BusOp → State → Prop where
  | read {a : BitVec 6} {y data : Word} {n : Nat} (shown : Within y s.raised) :
      BusEffect s (.read a) { s with status := s.status ||| y, readData := data, draws := n }
  | flag {op : BusOp} (f : Flag) : BusEffect s op (s.setFlag f)
  | clear (d : Word) : BusEffect s (.write 1 d) (s.statusWrite d)
  | store {a : BitVec 6} (r : RegId) (d : Word) (idle : s.busy = false) : BusEffect s (.write a d) (s.storeReg r d)

theorem RegId.ofNumber_eq_status {a : BitVec 6} (h : RegId.ofNumber a = .status) : a = 1 := by
  revert a; decide

theorem State.regRead_effect (s : State) (a : BitVec 6) (r : RegId) : BusEffect s (.read a) (s.regRead r) := by
  have hother : BusEffect s (.read a) { s.reserve (s.dataKeys r) with readData := s.regData r } := by
    simpa [State.reserve] using BusEffect.read (s := s) (a := a) (y := 0) (.zero _)
  have hshown : Within s.shownLate s.raised := by
    have hself : Within s.raised s.raised := by simp [Within]
    unfold State.shownLate
    split
    · exact .zero _
    · exact hself.and _
  cases r with
  | status => exact .read hshown
  | _ => exact hother

theorem State.storeIdle_effect (s : State) (a : BitVec 6) (r : RegId) (d : Word) :
    BusEffect s (.write a d) (s.storeIdle r d) := by
  unfold State.storeIdle
  split
  · exact .flag _
  · next hidle => exact .store r d (by simpa using hidle)

theorem State.regWrite_effect (s : State) {a : BitVec 6} (d : Word) (hcmd : RegId.ofNumber a ≠ .cmd) :
    BusEffect s (.write a d) (s.regWrite (RegId.ofNumber a) d) := by
  cases hr : RegId.ofNumber a with
  | cmd => exact absurd hr hcmd
  | status => exact RegId.ofNumber_eq_status hr ▸ .clear d
  | operand _ | offx _ | offy _ | pal _ => exact s.storeIdle_effect a _ d
  | rot | xoff | yoff | panelW | panelH | reserved _ => exact .flag _

/-- A bus transaction dispatches a command to an idle block, or has the effect of a plain transaction. -/
theorem busTurn_effect (op : BusOp) (s : State) :
    (∃ i, busTurn op s = .run i s ∧ s.busy = false) ∨ ∃ u, busTurn op s = .done u ∧ BusEffect s op u := by
  cases op with
  | read a => exact .inr ⟨_, rfl, s.regRead_effect a _⟩
  | write a d =>
    by_cases hcmd : RegId.ofNumber a = .cmd
    · rw [busTurn, if_pos hcmd, commandTurn]
      split
      · exact .inr ⟨_, rfl, .flag _⟩
      · next hidle =>
        split
        · exact .inl ⟨_, rfl, by simpa using hidle⟩
        · exact .inr ⟨_, rfl, .flag _⟩
    · rw [busTurn, if_neg hcmd]
      exact .inr ⟨_, rfl, s.regWrite_effect d hcmd⟩

/-! ## The step -/

/-- The next scheduled move taken off the schedule. -/
def State.popped (s : State) : State := { s with schedule := s.schedule.tail }

/-- Whether the host's next move is the bus transaction `op`. -/
def State.offers (s : State) (op : BusOp) : Prop :=
  ∃ rest, s.schedule = .bus op :: rest ∨ s.schedule = .busWithBlock op :: rest

/-- What a step that goes on does. -/
inductive StepEffect (s : State) : State → Prop where
  | transaction {op : BusOp} {u t : State} (offered : s.offers op) (bus : BusEffect s.popped op u)
      (block : BlockEffect u t) : StepEffect s t
  | command {i : Instr} {t : State} (idle : s.busy = false) (dispatched : turn s = .run i s.popped)
      (ran : exec i s.popped = .next t) : StepEffect s t
  | block {t : State} (block : BlockEffect s.popped t) : StepEffect s t
  | accept : StepEffect s s.popped.acceptEvent
  | hostStore {a : Word} {b : Byte} {rest : List Move} (scheduled : s.schedule = .hostStore a b :: rest)
      (inSource : s.inSource a = true) :
      StepEffect s
        { s.popped with
          mem := Memory.write s.mem a.toNat b
          raced := if s.busy then (a.toNat, Memory.read s.mem a.toNat) :: s.raced else s.raced }
  | reset {along : Option BusOp} {rest : List Move} (scheduled : s.schedule = .reset along :: rest) :
      StepEffect s s.popped.resetBlock

theorem State.popped_of_nil {s : State} (h : s.schedule = []) : s.popped = s := by
  cases s
  simp_all [State.popped]

theorem turn_of_cons {s : State} {m : Move} {rest : List Move} (h : s.schedule = m :: rest) :
    turn s = moveTurn m s.popped := by
  simp [turn, State.popped, h]

/-- A move whose bus transaction dispatches a command is that command's dispatch, whether or not the block acts too. -/
theorem busBlockTurn_of_run {s : State} {op : BusOp} {i : Instr} (h : busTurn op s = .run i s) :
    busBlockTurn op s = .run i s := by
  simp [busBlockTurn, h]

theorem busBlockTurn_of_done {s t u : State} {op : BusOp} (h : busTurn op s = .done u)
    (hnext : finishTurn (busBlockTurn op s) = .next t) : BlockEffect u t := by
  simp only [busBlockTurn, h] at hnext
  split at hnext
  · exact sameStepBlock_effect hnext
  · cases hnext
    exact .none

/-- Every step that goes on has one of the effects listed. -/
theorem step_effect {s t : State} (h : step s = .next t) : StepEffect s t := by
  rcases hs : s.schedule with _ | ⟨m, rest⟩
  · rw [step_of_empty_schedule hs] at h
    have hp := State.popped_of_nil hs
    split at h
    · exact .block (hp.symm ▸ blockTurn_effect h)
    · cases h
      simpa [hp] using StepEffect.accept (s := s)
  have hturn := turn_of_cons hs
  rw [step, hturn] at h
  cases m with
  | bus op =>
    rcases busTurn_effect op s.popped with ⟨i, hrun, hidle⟩ | ⟨u, hdone, hbus⟩
    · exact .command hidle (hturn.trans hrun) (by rwa [moveTurn, hrun] at h)
    · rw [moveTurn, hdone] at h
      cases h
      exact .transaction ⟨rest, .inl hs⟩ hbus .none
  | busWithBlock op =>
    rcases busTurn_effect op s.popped with ⟨i, hrun, hidle⟩ | ⟨u, hdone, hbus⟩
    · have hrun' := busBlockTurn_of_run hrun
      exact .command hidle (hturn.trans hrun') (by rwa [moveTurn, hrun'] at h)
    · exact .transaction ⟨rest, .inr hs⟩ hbus (busBlockTurn_of_done hdone h)
  | block => exact .block (blockTurn_effect h)
  | accept =>
    cases h
    exact .accept
  | hostStore a b =>
    rw [moveTurn, hostStoreTurn] at h
    split at h
    · next hin =>
      cases h
      exact .hostStore hs hin
    · cases h
  | reset along =>
    cases h
    exact .reset hs

end Sys2Proof.Machine
end

section
/-! # The block stays coherent

The parts of `State.Coherent` for each effect of a step (10_state.md R29, R30, R33 to R35), and its preservation. -/

namespace Sys2Proof.Machine

open Sys2Proof

/-! ## Ways a state is coherent -/

/-- A state with BUSY clear and no hidden execution state is coherent (10_state.md R36). -/
theorem coherent_of_idle {s : State} (hbusy : s.busy = false) (hcurrent : s.current = none) (hiter : s.iter = none)
    (hrle : s.rle = none) (hpending : s.pending = []) (hraised : s.raised = 0) (hcleared : s.cleared = 0)
    (hraced : s.raced = []) : s.Coherent where
  idle := fun _ => ⟨hcurrent, hiter, hrle, hpending, hraised, hcleared, hraced⟩
  busyHolds := by simp [State.BusyHolds, hbusy]
  decode := by simp [State.DecodeOk, hiter, hrle]
  window := by simp [State.WindowHeld, hcurrent, hpending]
  late := by simp [State.LateOk, hraised, hcleared]

/-- With the window open and no `End` pending the window is held, whatever the command (R30). -/
theorem windowHeld_of_open {s : State} (hopen : s.winOpen = true) (hfin : Event.fin ∉ s.pending) : s.WindowHeld :=
  ⟨fun _ _ _ => hopen, fun _ _ _ => hfin, fun _ => hfin, fun h => hfin (List.mem_of_mem_dropLast h)⟩

/-- What BUSY, WIN_OPEN and the hidden execution state are, the late flags and the raced bytes aside. -/
def State.execution (s : State) : Bool × Bool × Option Instr × Option Iter × Option Rle × List Event :=
  (s.busy, s.winOpen, s.current, s.iter, s.rle, s.pending)

theorem State.execution_eq_iff (s t : State) :
    t.execution = s.execution ↔ t.busy = s.busy ∧ t.winOpen = s.winOpen ∧ t.current = s.current ∧ t.iter = s.iter ∧
      t.rle = s.rle ∧ t.pending = s.pending := by
  simp [State.execution]

/-- Coherence rests on the execution state, and on late flags and raced bytes that an idle block does not have. -/
theorem State.Coherent.of_execution_eq {s t : State} (h : s.Coherent) (hsame : t.execution = s.execution)
    (hlate : t.LateOk) (hidle : s.busy = false → t.raised = s.raised ∧ t.cleared = s.cleared ∧ t.raced = s.raced) :
    t.Coherent := by
  obtain ⟨hbusy, hwin, hcurrent, hiter, hrle, hpending⟩ := (State.execution_eq_iff s t).mp hsame
  have hdecoding : t.decoding = s.decoding := by simp only [State.decoding, hiter, hrle]
  obtain ⟨idle, busyHolds, decode, window, -⟩ := h
  refine ⟨fun hb => ?_, ?_, ?_, ?_, hlate⟩
  · have hempty := idle (hbusy ▸ hb)
    have hkept := hidle (hbusy ▸ hb)
    simp_all
  · simpa only [State.BusyHolds, hbusy, hcurrent, hpending, hdecoding] using busyHolds
  · simpa only [State.DecodeOk, hiter, hrle, hcurrent] using decode
  · simpa only [State.WindowHeld, hcurrent, hwin, hpending, hdecoding] using window

/-- A block that is busy with a command and has an event or decode work left is coherent where its decode work, its window and
its late flags are. -/
theorem coherent_of_busy {s : State} (hbusy : s.busy = true) (hcurrent : s.current.isSome = true)
    (hleft : s.pending ≠ [] ∨ s.decoding = true) (hdecode : s.DecodeOk) (hwindow : s.WindowHeld)
    (hlate : s.LateOk) : s.Coherent where
  idle := by simp [State.IdleEmpty, hbusy]
  busyHolds := fun _ => ⟨hcurrent, hleft⟩
  decode := hdecode
  window := hwindow
  late := hlate

theorem decodeOk_of_none {s : State} (hiter : s.iter = none) (hrle : s.rle = none) : s.DecodeOk := by
  simp [State.DecodeOk, hiter, hrle]

theorem decodeOk_of_iter {s : State} {it : Iter} {i : Instr} (hiter : s.iter = some it) (hrle : s.rle = none) (hok : it.Ok)
    (hcurrent : s.current = some i) (hi : isBlit i = true) : s.DecodeOk := by
  refine ⟨fun it' hit' => ?_, fun r hr => by simp [hrle] at hr⟩
  obtain rfl : it = it' := by simpa [hiter] using hit'
  exact ⟨hrle, hok, i, hcurrent, hi⟩

theorem decodeOk_of_rle {s : State} {r : Rle} {i : Instr} (hrle : s.rle = some r) (hiter : s.iter = none) (hok : r.Ok)
    (hcurrent : s.current = some i) (hi : isBlitRle i = true) : s.DecodeOk := by
  refine ⟨fun it hit => by simp [hiter] at hit, fun r' hr' => ?_⟩
  obtain rfl : r = r' := by simpa [hrle] using hr'
  exact ⟨hiter, hok, i, hcurrent, hi⟩

/-! ## Refusals and bus transactions -/

theorem State.Coherent.setFlag {s : State} (h : s.Coherent) (f : Flag) : (s.setFlag f).Coherent :=
  h.of_execution_eq (by simp [State.execution]) h.late fun _ => ⟨rfl, rfl, rfl⟩

theorem State.Coherent.setFlagIf {s : State} (h : s.Coherent) (c : Bool) (f : Flag) : (s.setFlagIf c f).Coherent :=
  h.of_execution_eq (by simp [State.execution]) h.late fun _ => ⟨rfl, rfl, rfl⟩

theorem State.Coherent.useOperands {s : State} (h : s.Coherent) (os : List Operand) : (s.useOperands os).Coherent :=
  h.of_execution_eq rfl h.late fun _ => ⟨rfl, rfl, rfl⟩

theorem State.execution_storeReg (s : State) (r : RegId) (d : Word) :
    (s.storeReg r d).execution = s.execution ∧ (s.storeReg r d).raised = s.raised ∧
      (s.storeReg r d).cleared = s.cleared ∧ (s.storeReg r d).raced = s.raced := by
  cases r <;> exact ⟨rfl, rfl, rfl, rfl⟩

/-- Late flags shown or raised are no part of the execution state. -/
theorem State.execution_report (s : State) {y : Word} (hy : Within y lateMask) (x : Word) :
    (s.report x y).execution = s.execution := by
  have hbit (n : Nat) (hn : lateMask.getLsbD n = false) : y.getLsbD n = false := by
    cases hyn : y.getLsbD n
    · rfl
    · rw [(within_iff _ _).mp hy n hyn] at hn
      cases hn
  simp only [State.execution, State.report, State.busy, State.winOpen, BitVec.getLsbD_or, hbit 0 rfl, hbit 1 rfl,
    Bool.or_false]

theorem State.report_lateOk {s : State} (h : s.LateOk) {x : Word} (hx : Within x lateMask) (y : Word) :
    (s.report x y).LateOk :=
  ⟨Within.or h.1 hx, h.2⟩

theorem State.statusWrite_lateOk (s : State) (d : Word) (h : s.LateOk) : (s.statusWrite d).LateOk :=
  ⟨h.1, Within.ite _ (Within.or h.2 (and_lateMask_within d)) h.2⟩

theorem BusEffect.coherent {s t : State} {op : BusOp} (h : BusEffect s op t) (hs : s.Coherent) : t.Coherent := by
  cases h with
  | read shown =>
    exact hs.of_execution_eq (s.execution_report (shown.trans hs.late.1) 0) hs.late fun _ => ⟨rfl, rfl, rfl⟩
  | flag f => exact hs.setFlag f
  | clear d =>
    exact hs.of_execution_eq (by simp [State.execution]) (s.statusWrite_lateOk d hs.late) fun hidle =>
      ⟨rfl, by simp [State.statusWrite, hidle], rfl⟩
  | store r d =>
    obtain ⟨hexec, hraised, hcleared, hraced⟩ := s.execution_storeReg r d
    exact hs.of_execution_eq hexec (by simpa only [State.LateOk, hraised, hcleared] using hs.late) fun _ =>
      ⟨hraised, hcleared, hraced⟩

/-! ## Commands -/

/-- The iterator of a blit that is not dropped starts inside its clamped tile (43_blit.md R170). -/
theorem startIter_ok {s : State} {w h : Nat} (hc : s.clipped = some (w, h)) (stride : Nat) (base : Word) :
    (s.startIter stride base w h).Ok := by
  obtain ⟨hw, hh, hw1, hh1, -, -⟩ := clip_eq_some hc
  refine ⟨⟨hw1, ?_, hh1, ?_, BitVec.isLt _, BitVec.isLt _⟩, hw1, Nat.zero_le _, fun _ => rfl⟩
  · exact hw.trans_le (Nat.min_le_left _ _)
  · exact hh.trans_le (Nat.min_le_left _ _)

theorem blitEnvelope_coherent {s : State} (h : s.Coherent) (hidle : s.busy = false) {i : Instr} (hi : isBlit i = true)
    (extra : List Operand) (stride : Nat) (base : Word) (keys : Nat → Nat → Nat) :
    (blitEnvelope i extra stride base keys s).Coherent := by
  obtain ⟨-, -, hrle, hpending, -⟩ := h.idle hidle
  rcases hc : s.clipped with _ | ⟨w, ht⟩
  · rw [blitEnvelope_dropped hc]
    exact (h.useOperands _).setFlag _
  · rw [blitEnvelope_started hc]
    refine coherent_of_busy ?_ rfl (.inr rfl) ?_ (windowHeld_of_open ?_ ?_) (by simpa [State.LateOk] using h.late)
    · simp [State.busy, busyMask]
    · exact decodeOk_of_iter rfl (by simpa using hrle) (startIter_ok hc stride base) rfl hi
    · simp [State.winOpen, State.setWinOpen, winOpenMask, busyMask]
    · simp [hpending, State.blitHeader, State.fin_notMem_header]

/-- A command without decode work, begun while nothing is pending. -/
theorem beginCommand_coherent {s : State} {i : Instr} {es : List Event} (hiter : s.iter = none) (hrle : s.rle = none)
    (hlate : s.LateOk) (hes : es ≠ []) (hwindow : (s.beginCommand i es).WindowHeld) : (s.beginCommand i es).Coherent :=
  coherent_of_busy (s.busy_beginCommand i es) rfl (.inl (by simp [hes])) (decodeOk_of_none hiter hrle) hwindow hlate

/-- A command run by an idle block leaves it coherent. -/
theorem ExecEffect.coherent {s t : State} {i : Instr} (heffect : ExecEffect s i t) (h : s.Coherent)
    (hidle : s.busy = false) : t.Coherent := by
  obtain ⟨-, hiter, hrle, hpending, -⟩ := h.idle hidle
  cases heffect with
  | same => exact h
  | rejected _ f => exact h.setFlag f
  | noWidth => exact (h.useOperands _).setFlag _
  | setrot => exact h.of_execution_eq rfl h.late fun _ => ⟨rfl, rfl, rfl⟩
  | window =>
    exact beginCommand_coherent hiter hrle h.late (by simp [State.windowHeader, State.header])
      (windowHeld_of_open (by simp) (by simp [hpending, State.windowHeader, State.fin_notMem_header]))
  | pixel hopen =>
    exact beginCommand_coherent hiter hrle h.late (by simp [pixelEvents])
      (windowHeld_of_open ((State.winOpen_beginCommand _ _ _).trans hopen) (by simp [hpending, fin_notMem_pixelEvents]))
  | close =>
    exact beginCommand_coherent hiter hrle h.late (by simp)
      (by simp [State.WindowHeld, State.decoding, isBlit, hpending, hiter, hrle])
  | blit hkind _ hstart =>
    rcases hstart with rfl | ⟨c, rfl⟩
    · exact blitEnvelope_coherent (h.useOperands _) hidle hkind _ _ _ _
    · exact blitEnvelope_coherent (h.setFlagIf c _) (by simpa using hidle) hkind _ _ _ _
  | run hr => simp [hrle] at hr

/-! ## Decode actions -/

/-- While there is decode work a blit is in progress, its window open and its `End` not yet pending (R30, R34). -/
theorem State.Coherent.of_decoding {s : State} (h : s.Coherent) (hwork : s.decoding = true) :
    s.busy = true ∧ s.winOpen = true ∧ Event.fin ∉ s.pending ∧ ∃ i, s.current = some i ∧ isBlit i = true := by
  have hblit : ∃ i, s.current = some i ∧ isBlit i = true := by
    obtain ⟨hiter, hrle⟩ := h.decode
    rcases hi : s.iter with _ | it
    · obtain ⟨r, hr⟩ : ∃ r, s.rle = some r := by simpa [State.decoding, hi, Option.isSome_iff_exists] using hwork
      obtain ⟨-, -, i, hcurrent, hkind⟩ := hrle r hr
      exact ⟨i, hcurrent, by cases i <;> simp_all [isBlit, isBlitRle]⟩
    · obtain ⟨-, -, i, hcurrent, hkind⟩ := hiter it hi
      exact ⟨i, hcurrent, hkind⟩
  obtain ⟨i, hcurrent, hkind⟩ := hblit
  obtain ⟨hopen, -, hfin, -⟩ := h.window
  refine ⟨?_, hopen i hcurrent (.inl hkind), hfin hwork, i, hcurrent, hkind⟩
  by_contra hidle
  obtain ⟨hnone, -⟩ := h.idle (by simpa using hidle)
  simp [hnone] at hcurrent

theorem DecodeAction.coherent {s t : State} (h : DecodeAction s t) (hs : s.Coherent) (hwork : s.decoding = true) :
    t.Coherent := by
  obtain ⟨hbusy, hopen, hfin, i, hcurrent, hkind⟩ := hs.of_decoding hwork
  have hsome : s.current.isSome = true := by simp [hcurrent]
  obtain ⟨hiter, hrle⟩ := hs.decode
  cases h with
  | finish =>
    refine coherent_of_busy hbusy hsome (.inl (by simp)) (decodeOk_of_none rfl rfl) ⟨fun _ _ _ => hopen, ?_, ?_, ?_⟩ hs.late
    · rintro j hj (rfl | rfl) <;> simp_all [isBlit]
    · simp [State.decoding]
    · simpa using hfin
  | pixel hit hes hsound =>
    obtain ⟨hnone, hok, -⟩ := hiter _ hit
    exact coherent_of_busy hbusy hsome (.inr rfl) (decodeOk_of_iter rfl hnone (hsound hok) hcurrent hkind)
      (windowHeld_of_open hopen (by simp [hfin, hes])) hs.late
  | lookup hit hcmd hsound =>
    obtain ⟨hnone, hok, -⟩ := hiter _ hit
    exact coherent_of_busy hbusy hsome (.inr rfl) (decodeOk_of_rle rfl rfl (hsound hok) hcmd rfl)
      (windowHeld_of_open hopen hfin) hs.late
  | token hr hes hsound =>
    obtain ⟨hnone, hok, j, hj, hrleKind⟩ := hrle _ hr
    exact coherent_of_busy hbusy hsome (.inr (by simp [State.decoding]))
      (decodeOk_of_rle rfl hnone (hsound hok) hj hrleKind) (windowHeld_of_open hopen (by simp [hfin, hes])) hs.late

theorem BlockEffect.coherent {s t : State} (h : BlockEffect s t) (hs : s.Coherent) : t.Coherent := by
  cases h with
  | none => exact hs
  | act hwork hx hy haction =>
    obtain ⟨hbusy, -⟩ := hs.of_decoding hwork
    exact haction.coherent
      (hs.of_execution_eq (s.execution_report hy _) (State.report_lateOk hs.late hx _) fun hidle => by simp [hbusy] at hidle)
      hwork

/-! ## Acceptances and reset -/

@[simp] theorem State.closeOn_work (s : State) (e : Event) :
    (s.closeOn e).iter = s.iter ∧ (s.closeOn e).rle = s.rle ∧ (s.closeOn e).pending = s.pending := by
  unfold State.closeOn
  split <;> simp

/-- A pending event that is followed by another one, or by decode work, is no `End` (R30). -/
theorem State.Coherent.head_ne_fin {s : State} {e : Event} {rest : List Event} (h : s.Coherent)
    (hpending : s.pending = e :: rest) (hleft : rest ≠ [] ∨ s.decoding = true) : e ≠ .fin := by
  obtain ⟨-, -, hdecoding, hlast⟩ := h.window
  rintro rfl
  rcases hleft with hrest | hwork
  · exact hlast (by simp [hpending, List.dropLast_cons_of_ne_nil hrest])
  · exact hdecoding hwork (by simp [hpending])

/-- An event taken while more is left to do leaves a coherent block. -/
theorem passEvent_coherent {s : State} {e : Event} {rest : List Event} (h : s.Coherent) (hpending : s.pending = e :: rest)
    (hleft : rest ≠ [] ∨ s.decoding = true) : (s.passEvent e rest).Coherent := by
  have hbusy : s.busy = true := by
    by_contra hidle
    obtain ⟨-, -, -, hempty, -⟩ := h.idle (by simpa using hidle)
    simp [hempty] at hpending
  have hmem {x : Event} (hx : x ∈ rest) : x ∈ s.pending := by simp [hpending, hx]
  have hlast {x : Event} (hx : x ∈ rest.dropLast) : x ∈ s.pending.dropLast := by
    rw [hpending, List.dropLast_cons_of_ne_nil (by rintro rfl; simp at hx)]
    exact List.mem_cons_of_mem e hx
  obtain ⟨hopen, hcommand, hdecoding, hend⟩ := h.window
  exact coherent_of_busy hbusy (h.busyHolds hbusy).1 hleft h.decode
    ⟨hopen, fun i hi hkind hx => hcommand i hi hkind (hmem hx), fun hwork hx => hdecoding hwork (hmem hx),
      fun hx => hend (hlast hx)⟩ h.late

/-- Taking the last event completes the command; any other one is no `End` and leaves the window as it is (R29, R30). -/
theorem acceptEvent_coherent {s : State} (h : s.Coherent) : s.acceptEvent.Coherent := by
  rcases s.acceptEvent_cases with ⟨-, hsame⟩ | ⟨e, rest, hpending, ⟨hleft, hnext⟩ | ⟨hlast, hdone, hnext⟩⟩
  · exact hsame.symm ▸ h
  · rw [hnext, State.closeOn, if_neg (h.head_ne_fin hpending hleft)]
    exact passEvent_coherent h hpending hleft
  · obtain ⟨hiter, hrle⟩ : s.iter = none ∧ s.rle = none := by simpa [State.decoding] using hdone
    rw [hnext]
    exact coherent_of_idle (by simp) rfl (by simp [hiter]) (by simp [hrle]) (by simp [hlast]) rfl rfl rfl

theorem resetBlock_coherent (s : State) : s.resetBlock.Coherent :=
  coherent_of_idle (by simp [State.busy, State.resetBlock, State.resetWith]) rfl rfl rfl rfl rfl rfl rfl

/-! ## The step -/

theorem State.Coherent.popped {s : State} (h : s.Coherent) : s.popped.Coherent :=
  h.of_execution_eq rfl h.late fun _ => ⟨rfl, rfl, rfl⟩

theorem StepEffect.coherent {s t : State} (h : StepEffect s t) (hs : s.Coherent) : t.Coherent := by
  have hpopped := hs.popped
  cases h with
  | transaction _ hbus hblock => exact hblock.coherent (hbus.coherent hpopped)
  | command hidle _ hran => exact (exec_effect hran).coherent hpopped hidle
  | block hblock => exact hblock.coherent hpopped
  | accept => exact acceptEvent_coherent hpopped
  | hostStore => exact hs.of_execution_eq rfl hs.late fun hidle => ⟨rfl, rfl, by simp [hidle]⟩
  | reset => exact resetBlock_coherent _

end Sys2Proof.Machine

namespace Sys2Proof

open Sys2Proof.Machine

/-- Settles O7, by the effects of a step: each keeps the block coherent. -/
theorem stepKeepsTheBlockCoherent : Obligations.StepKeepsTheBlockCoherent :=
  fun _ _ hs h => (step_effect h).coherent hs

end Sys2Proof
end

section
/-! # STATUS and the flags raised late

No step but a STATUS write or a reset clears a sticky flag, none sets a reserved bit, and only flags of step 9 are raised late
(10_state.md R28, R31, 60_exceptions.md R205). -/

namespace Sys2Proof.Machine

open Sys2Proof

/-- What may happen to STATUS and the late flags from `s` to `t`, where the sticky flags `m` may be cleared. -/
structure StatusStep (m : Word) (s t : State) : Prop where
  sticky : ∀ n, 8 ≤ n → m.getLsbD n = false → s.status.getLsbD n = true → t.status.getLsbD n = true
  late : s.LateOk → t.LateOk
  reserved : s.LateOk → s.ReservedClear → t.ReservedClear

theorem StatusStep.trans {m : Word} {s t u : State} (h : StatusStep m s t) (h' : StatusStep 0 t u) : StatusStep m s u where
  sticky := fun n hn hm hs => h'.sticky n hn (by simp) (h.sticky n hn hm hs)
  late := fun hl => h'.late (h.late hl)
  reserved := fun hl hr => h'.reserved (h.late hl) (h.reserved hl hr)

/-- The bits of STATUS that are not reserved (R28). -/
def definedMask : Word := busyMask ||| winOpenMask ||| stickyMask

theorem Within.defined {x : Word} (h : Within x lateMask) : Within x definedMask :=
  h.trans (by unfold Within; decide)

theorem Flag.mask_within_defined (f : Flag) : Within f.mask definedMask := by
  unfold Within
  cases f <;> decide

/-- Bits `c` of STATUS are cleared, then bits `y` set. -/
theorem StatusStep.of_bits {m c y : Word} {s t : State} (hstatus : t.status = s.status &&& ~~~c ||| y)
    (hcleared : ∀ n, 8 ≤ n → m.getLsbD n = false → c.getLsbD n = false) (hset : s.LateOk → Within y definedMask)
    (hlate : s.LateOk → t.LateOk) : StatusStep m s t where
  sticky := fun n hn hm hs => by
    simp [-BitVec.getLsbD_eq_getElem, hstatus, hs, hcleared n hn hm, BitVec.lt_of_getLsbD hs]
  late := hlate
  reserved := fun hl hr => by
    change Within t.status definedMask
    rw [hstatus]
    exact (Within.and hr _).or (hset hl)

/-- Bits `y` of STATUS are set, none cleared. -/
theorem StatusStep.of_set {y : Word} {s t : State} (hstatus : t.status = s.status ||| y)
    (hset : s.LateOk → Within y definedMask) (hlate : s.LateOk → t.LateOk) : StatusStep 0 s t :=
  .of_bits (c := 0#32) (by rw [hstatus, BitVec.not_zero, BitVec.and_allOnes]) (by simp) hset hlate

/-- STATUS stays as it is. -/
theorem StatusStep.of_eq {s t : State} (hstatus : t.status = s.status) (hlate : s.LateOk → t.LateOk) : StatusStep 0 s t :=
  .of_set (y := 0) (by simp [hstatus]) (fun _ => .zero _) hlate

theorem StatusStep.refl (s : State) : StatusStep 0 s s := .of_eq rfl id

theorem busyMask_high (n : Nat) (hn : 8 ≤ n) : busyMask.getLsbD n = false := by
  simp [busyMask]; omega

theorem winOpenMask_high (n : Nat) (hn : 8 ≤ n) : winOpenMask.getLsbD n = false := by
  change (BitVec.twoPow 32 1).getLsbD n = false
  simp; omega

/-! ## The shared operations, each after a change from `s` to `t` -/

section
variable {m : Word} {s t : State}

theorem StatusStep.useOperands (h : StatusStep m s t) (os : List Operand) : StatusStep m s (t.useOperands os) :=
  h.trans (.of_eq rfl id)

theorem StatusStep.setFlag (h : StatusStep m s t) (f : Flag) : StatusStep m s (t.setFlag f) :=
  h.trans (.of_set rfl (fun _ => f.mask_within_defined) id)

theorem StatusStep.setFlagIf (h : StatusStep m s t) (c : Bool) (f : Flag) : StatusStep m s (t.setFlagIf c f) := by
  cases c
  · exact h
  · exact h.setFlag f

theorem StatusStep.setWinOpen (h : StatusStep m s t) (b : Bool) : StatusStep m s (t.setWinOpen b) := by
  cases b
  · exact h.trans (.of_bits (c := winOpenMask) (y := 0) (by simp [State.setWinOpen])
      (fun n hn _ => winOpenMask_high n hn) (fun _ => .zero _) id)
  · exact h.trans (.of_set (y := winOpenMask) rfl (fun _ => by unfold Within; decide) id)

theorem StatusStep.beginCommand (h : StatusStep m s t) (i : Instr) (es : List Event) :
    StatusStep m s (t.beginCommand i es) :=
  h.trans (.of_set (y := busyMask) rfl (fun _ => by unfold Within; decide) id)

theorem StatusStep.complete (h : StatusStep m s t) : StatusStep m s t.complete := by
  have hsettled (hlate : t.LateOk) : Within t.settledLate lateMask :=
    .or (.and hlate.1 _) (.ite _ (.zero _) ((Within.and hlate.1 _).and _))
  have hshown : StatusStep 0 t { t with status := t.status ||| t.settledLate } :=
    .of_set rfl (fun hlate => (hsettled hlate).defined) id
  exact (h.trans hshown).trans (.of_bits (c := busyMask) (y := 0) (by simp [State.complete])
    (fun n hn _ => busyMask_high n hn) (fun _ => .zero _) fun _ => by simp [State.LateOk])

theorem StatusStep.blitEnvelope (h : StatusStep m s t) (i : Instr) (extra : List Operand) (stride : Nat) (base : Word)
    (keys : Nat → Nat → Nat) : StatusStep m s (blitEnvelope i extra stride base keys t) := by
  rcases hc : t.clipped with _ | ⟨w, ht⟩
  · rw [blitEnvelope_dropped hc]
    exact (h.useOperands _).setFlag _
  · rw [blitEnvelope_started hc]
    have hbegun := (((((h.useOperands clipOperands).useOperands extra).setFlagIf (t.isClamped w ht) .infoClamped).setWinOpen
      true).beginCommand i (t.blitHeader w ht))
    exact hbegun.trans (.of_eq rfl id)

end

/-! ## The effects of a step -/

/-- No instruction clears a sticky flag or sets a reserved bit. -/
theorem ExecEffect.statusStep {i : Instr} {s t : State} (h : ExecEffect s i t) : StatusStep 0 s t := by
  have hself := StatusStep.refl s
  cases h with
  | same => exact hself
  | rejected _ f => exact hself.setFlag f
  | noWidth => exact (hself.useOperands _).setFlag _
  | setrot | run => exact .of_eq rfl id
  | window => exact ((hself.useOperands _).setWinOpen _).beginCommand _ _
  | pixel => exact (hself.useOperands _).beginCommand _ _
  | close => exact (hself.setWinOpen _).beginCommand _ _
  | blit _ _ hstart =>
    rcases hstart with rfl | ⟨c, rfl⟩
    · exact (hself.useOperands _).blitEnvelope _ _ _ _ _
    · exact (hself.setFlagIf c _).blitEnvelope _ _ _ _ _

/-- A bus transaction clears no sticky flag but those of a STATUS write's data (R31, 40_control.md R102). -/
theorem BusEffect.statusStep {s t : State} {op : BusOp} (h : BusEffect s op t) :
    ∃ m, StatusStep m s t ∧ (m = 0 ∨ op = .write 1 m) := by
  cases h with
  | read shown => exact ⟨0, .of_set rfl (fun hlate => (shown.trans hlate.1).defined) id, .inl rfl⟩
  | flag f => exact ⟨0, (StatusStep.refl s).setFlag f, .inl rfl⟩
  | clear d =>
    refine ⟨d, .of_bits (c := d &&& stickyMask) (y := 0) (by simp [State.statusWrite]) ?_ (fun _ => .zero _)
      (s.statusWrite_lateOk d), .inr rfl⟩
    intro n _ hd
    simp [-BitVec.getLsbD_eq_getElem, hd]
  | store r d => exact ⟨0, .of_eq (by cases r <;> rfl) (by cases r <;> exact id), .inl rfl⟩

theorem DecodeAction.statusStep {s t : State} (h : DecodeAction s t) : StatusStep 0 s t := by
  cases h <;> exact .of_eq rfl id

theorem BlockEffect.statusStep {s t : State} (h : BlockEffect s t) : StatusStep 0 s t := by
  cases h with
  | none => exact .refl s
  | act _ hx hy haction =>
    have hreport : StatusStep 0 s (s.report _ _) :=
      .of_set rfl (fun _ => hy.defined) fun hlate => State.report_lateOk hlate hx _
    exact hreport.trans haction.statusStep

theorem acceptEvent_statusStep (s : State) : StatusStep 0 s s.acceptEvent := by
  have htaken (e : Event) (rest : List Event) : StatusStep 0 s ((s.passEvent e rest).closeOn e) := by
    have hpass : StatusStep 0 s (s.passEvent e rest) := .of_eq rfl id
    unfold State.closeOn
    split
    · exact hpass.setWinOpen false
    · exact hpass
  rcases s.acceptEvent_cases with ⟨-, hsame⟩ | ⟨e, rest, -, ⟨-, hnext⟩ | ⟨-, -, hnext⟩⟩
  · exact hsame.symm ▸ .refl s
  · exact hnext ▸ htaken e rest
  · exact hnext ▸ (htaken e rest).complete

theorem StatusStep.of_popped {m : Word} {s t : State} (h : StatusStep m s.popped t) : StatusStep m s t :=
  ⟨h.sticky, h.late, h.reserved⟩

/-- A step that is no reset clears no sticky flag but those of a STATUS write's data. -/
theorem StepEffect.statusStep {s t : State} (h : StepEffect s t) (hreset : ∀ along rest, s.schedule ≠ .reset along :: rest) :
    ∃ m, StatusStep m s t ∧ (m = 0 ∨ s.offers (.write 1 m)) := by
  cases h with
  | transaction hoffered hbus hblock =>
    obtain ⟨m, hm, hwrite⟩ := hbus.statusStep
    refine ⟨m, (hm.trans hblock.statusStep).of_popped, hwrite.imp_right ?_⟩
    rintro rfl
    exact hoffered
  | command _ _ hran => exact ⟨0, ((exec_effect hran).statusStep).of_popped, .inl rfl⟩
  | block hblock => exact ⟨0, hblock.statusStep.of_popped, .inl rfl⟩
  | accept => exact ⟨0, (acceptEvent_statusStep _).of_popped, .inl rfl⟩
  | hostStore => exact ⟨0, .of_eq rfl id, .inl rfl⟩
  | reset hscheduled => exact absurd hscheduled (hreset _ _)

end Sys2Proof.Machine

namespace Sys2Proof

open Sys2Proof.Machine

/-- Settles O8: a reset leaves STATUS and the late flags 0, and no other step sets a reserved bit or raises another flag. -/
theorem stepKeepsReservedStatusBitsZero : Obligations.StepKeepsReservedStatusBitsZero := by
  intro s t hreserved hlate h
  by_cases hreset : ∃ along rest, s.schedule = .reset along :: rest
  · obtain ⟨along, rest, hs⟩ := hreset
    rw [step, turn_of_cons hs] at h
    cases h
    simp [State.ReservedClear, State.LateOk, State.resetBlock, State.resetWith]
  · obtain ⟨m, hstep, -⟩ := (step_effect h).statusStep (by simpa using hreset)
    exact ⟨hstep.reserved hlate hreserved, hstep.late hlate⟩

/-- Settles O15: the only step but a reset that clears sticky flags is a STATUS write, and it clears those of its data. -/
theorem stickyFlagsStayUntilCleared : Obligations.StickyFlagsStayUntilCleared := by
  constructor
  · intro s t n hn _ hset h hreset hwrite
    obtain ⟨m, hstep, hm⟩ := (step_effect h).statusStep hreset
    refine hstep.sticky n hn ?_ hset
    rcases hm with rfl | ⟨rest, hoffered⟩
    · simp
    · by_contra hmn
      obtain ⟨hbus, hblock⟩ := hwrite m rest (by simpa using hmn)
      exact hoffered.elim hbus hblock
  · intro s d rest hs
    refine ⟨s.popped.statusWrite d, ?_, fun n hd => ?_⟩
    · rw [step, turn_of_cons hs]
      rfl
    · by_cases hn : n < 32
      · simp [-BitVec.getLsbD_eq_getElem, State.statusWrite, State.popped, hd, hn]
      · simp [-BitVec.getLsbD_eq_getElem, State.statusWrite, State.popped, BitVec.getLsbD_of_ge _ n (Nat.le_of_not_lt hn)]

end Sys2Proof
end

section
/-! # The registers a host program sees

Besides a reset, the host-written registers and the orientation state change by a bus write to an idle block or by a command
an idle block runs (10_state.md R22, R24, R27). -/

namespace Sys2Proof.Machine

open Sys2Proof

/-- The parameter registers, the palette, the offset table and the orientation state. -/
def State.registers (s : State) :
    OperandFile × Vector (Marked 16) 16 × Vector (Marked 16) 4 × Vector (Marked 16) 4 × Orientation :=
  (s.operands, s.pal, s.offx, s.offy, s.orient)

theorem State.registers_eq_iff (s t : State) :
    t.registers = s.registers ↔
      t.operands = s.operands ∧ t.pal = s.pal ∧ t.offx = s.offx ∧ t.offy = s.offy ∧ t.orient = s.orient := by
  simp [State.registers]

theorem BusEffect.registers {s t : State} {op : BusOp} (h : BusEffect s op t) :
    t.registers = s.registers ∨ s.busy = false ∧ ∃ r d, t = s.storeReg r d := by
  cases h with
  | read _ | flag _ | clear _ => exact .inl rfl
  | store r d hidle => exact .inr ⟨hidle, r, d, rfl⟩

theorem BlockEffect.registers {s t : State} (h : BlockEffect s t) : t.registers = s.registers := by
  cases h with
  | none => rfl
  | act _ _ _ haction => cases haction <;> rfl

theorem acceptEvent_registers (s : State) : s.acceptEvent.registers = s.registers := by
  have htaken (e : Event) (rest : List Event) : ((s.passEvent e rest).closeOn e).registers = s.registers := by
    unfold State.closeOn
    split <;> rfl
  rcases s.acceptEvent_cases with ⟨-, hsame⟩ | ⟨e, rest, -, ⟨-, hnext⟩ | ⟨-, -, hnext⟩⟩
  · rw [hsame]
  · rw [hnext, htaken]
  · rw [hnext, ← htaken e rest]
    rfl

/-- A step that is no reset leaves the registers, or an idle block stores a bus write or runs a command. -/
theorem StepEffect.registers {s t : State} (h : StepEffect s t) (hreset : ∀ along rest, s.schedule ≠ .reset along :: rest) :
    t.registers = s.registers ∨
      s.busy = false ∧ ((∃ r d, t.registers = (s.popped.storeReg r d).registers) ∨
        ∃ i, turn s = .run i s.popped ∧ exec i s.popped = .next t) := by
  cases h with
  | transaction _ hbus hblock =>
    rw [hblock.registers]
    rcases hbus.registers with hsame | ⟨hidle, r, d, rfl⟩
    · exact .inl hsame
    · exact .inr ⟨hidle, .inl ⟨r, d, rfl⟩⟩
  | command hidle hturn hran => exact .inr ⟨hidle, .inr ⟨_, hturn, hran⟩⟩
  | block hblock => exact .inl hblock.registers
  | accept => exact .inl (acceptEvent_registers _)
  | hostStore => exact .inl rfl
  | reset hscheduled => exact absurd hscheduled (hreset _ _)

theorem State.storeReg_orient (s : State) (r : RegId) (d : Word) : (s.storeReg r d).orient = s.orient := by
  cases r <;> rfl

/-! ## Written marks -/

/-- Every set written mark of `s` is set in `t` (R22). -/
def KeepsMarks (s t : State) : Prop :=
  (∀ o, s.operands.written o = true → t.operands.written o = true) ∧
    (∀ k, (s.palEntry k).written = true → (t.palEntry k).written = true) ∧
    (∀ r, (s.offxEntry r).written = true → (t.offxEntry r).written = true) ∧
    (∀ r, (s.offyEntry r).written = true → (t.offyEntry r).written = true)

theorem KeepsMarks.trans {s t u : State} (h : KeepsMarks s t) (h' : KeepsMarks t u) : KeepsMarks s u := by
  obtain ⟨hoperands, hpal, hoffx, hoffy⟩ := h
  obtain ⟨hoperands', hpal', hoffx', hoffy'⟩ := h'
  exact ⟨fun o ho => hoperands' o (hoperands o ho), fun k hk => hpal' k (hpal k hk), fun r hr => hoffx' r (hoffx r hr),
    fun r hr => hoffy' r (hoffy r hr)⟩

theorem keepsMarks_of_eq {s t : State} (hoperands : t.operands = s.operands) (hpal : t.pal = s.pal)
    (hoffx : t.offx = s.offx) (hoffy : t.offy = s.offy) : KeepsMarks s t := by
  simp [KeepsMarks, State.palEntry, State.offxEntry, State.offyEntry, hoperands, hpal, hoffx, hoffy]

theorem OperandFile.written_store (f : OperandFile) (o o' : Operand) (d : Word) :
    (f.store o d).written o' = (decide (o' = o) || f.written o') := by
  cases o <;> cases o' <;> rfl

theorem written_set {n k j : Nat} {v : Vector (Marked 16) n} (hk : k < n) (hj : j < n) (d : Word)
    (h : v[j].written = true) : ((v.set k (Marked.store 16 d) hk)[j]).written = true := by
  rw [Vector.getElem_set]
  split
  · rfl
  · exact h

theorem storeReg_keepsMarks (s : State) (r : RegId) (d : Word) : KeepsMarks s (s.storeReg r d) := by
  cases r with
  | operand o =>
    exact ⟨fun o' h => by simp [State.storeReg, OperandFile.written_store, h], fun _ => id, fun _ => id, fun _ => id⟩
  | offx r => exact ⟨fun _ => id, fun _ => id, fun r' => written_set r.isLt r'.isLt d, fun _ => id⟩
  | offy r => exact ⟨fun _ => id, fun _ => id, fun _ => id, fun r' => written_set r.isLt r'.isLt d⟩
  | pal k => exact ⟨fun _ => id, fun k' => written_set k.isLt k'.isLt d, fun _ => id, fun _ => id⟩
  | cmd | status | rot | xoff | yoff | panelW | panelH | reserved _ => exact keepsMarks_of_eq rfl rfl rfl rfl

end Sys2Proof.Machine

namespace Sys2Proof

open Sys2Proof.Machine

/-- Settles O11: a bus write stores to no orientation register, and of the commands only SETROT changes one. -/
theorem onlySetrotAndResetChangeOrientation : Obligations.OnlySetrotAndResetChangeOrientation := by
  intro s t h hsetrot hreset
  rcases (step_effect h).registers hreset with hsame | ⟨-, ⟨r, d, hstored⟩ | ⟨i, hturn, hran⟩⟩
  · obtain ⟨-, -, -, -, horient⟩ := (State.registers_eq_iff s t).mp hsame
    exact horient
  · obtain ⟨-, -, -, -, horient⟩ := (State.registers_eq_iff _ t).mp hstored
    exact horient.trans (State.storeReg_orient _ r d)
  · have horient : t.orient = s.popped.orient :=
      exec_orient (fun rot hi => hsetrot rot s.popped (hi ▸ hturn)) hran
    exact horient

/-- Settles O12: only an idle block stores a bus write to a register or runs a command. -/
theorem busyFreezesPaletteAndOperands : Obligations.BusyFreezesPaletteAndOperands := by
  intro s t hbusy h hreset
  rcases (step_effect h).registers hreset with hsame | ⟨hidle, -⟩
  · obtain ⟨hoperands, hpal, hoffx, hoffy, horient⟩ := (State.registers_eq_iff s t).mp hsame
    exact ⟨hpal, hoperands, hoffx, hoffy, horient⟩
  · simp [hbusy] at hidle

/-- Settles O17: a bus write sets the mark of its register and clears none, and no command touches a mark. -/
theorem writtenMarksStayUntilReset : Obligations.WrittenMarksStayUntilReset := by
  intro s t h hreset
  change KeepsMarks s t
  rcases (step_effect h).registers hreset with hsame | ⟨-, ⟨r, d, hstored⟩ | ⟨i, -, hran⟩⟩
  · obtain ⟨hoperands, hpal, hoffx, hoffy, -⟩ := (State.registers_eq_iff s t).mp hsame
    exact keepsMarks_of_eq hoperands hpal hoffx hoffy
  · obtain ⟨hoperands, hpal, hoffx, hoffy, -⟩ := (State.registers_eq_iff _ t).mp hstored
    exact (storeReg_keepsMarks s.popped r d).trans (keepsMarks_of_eq hoperands hpal hoffx hoffy)
  · obtain ⟨-, hoperands, hpal, hoffx, hoffy, -⟩ := (State.kept_butOrient_iff _ t).mp (exec_kept hran)
    exact keepsMarks_of_eq hoperands hpal hoffx hoffy

end Sys2Proof
end

section
/-! # The state after reset (10_state.md R36) -/

namespace Sys2Proof.Machine

open Sys2Proof

theorem OperandFile.written_reset (o : Operand) : OperandFile.reset.written o = false := by
  cases o <;> rfl

/-- The block after reset is idle and empty, whatever its parameters. -/
theorem resetWith_coherent (p : Params) : (State.resetWith p).Coherent :=
  coherent_of_idle (by simp [State.busy, State.resetWith]) rfl rfl rfl rfl rfl rfl rfl

/-- One more than an axis free in 0..159 is a panel axis (00_scope.md R7). -/
theorem axis_bounds (n : Fin 160) :
    1 ≤ (BitVec.ofNat 16 (n.val + 1)).toNat ∧ (BitVec.ofNat 16 (n.val + 1)).toNat ≤ 160 := by
  rw [BitVec.toNat_ofNat, Nat.mod_eq_of_lt (by omega)]
  omega

/-- The parameters of this block lie in their legal ranges (00_scope.md R7). -/
theorem Config.params_wellFormed : Config.params.WellFormed := by
  have hsize : Config.srcSizeLessOne.toNat < 2 ^ 32 := BitVec.isLt _
  exact ⟨axis_bounds _, axis_bounds _, Nat.succ_pos _, hsize⟩

end Sys2Proof.Machine

namespace Sys2Proof

open Sys2Proof.Machine

/-- Settles O4, field by field. -/
theorem resetLeavesItsValues : Obligations.ResetLeavesItsValues := by
  refine ⟨rfl, rfl, fun r => ⟨?_, ?_⟩, OperandFile.written_reset, fun k => ?_, rfl, rfl, rfl, rfl⟩
  · simp [State.offxEntry, State.reset, State.resetWith, Marked.zeroWritten]
  · simp [State.offyEntry, State.reset, State.resetWith, Marked.zeroWritten]
  · simp [State.palEntry, State.reset, State.resetWith, Marked.unwritten]

/-- Settles O6: an idle and empty block with no memory listed, the native panel and legal parameters. -/
theorem resetMeetsTheInvariants : Obligations.ResetMeetsTheInvariants := by
  refine ⟨resetWith_coherent _, ?_, ?_, ⟨rfl, rfl⟩, Config.params_wellFormed⟩
  · simp [State.ReservedClear, State.reset, State.resetWith]
  · simp [State.MemoryOk, State.reset, State.resetWith, Memory.wf]

end Sys2Proof
end

section
/-! # Source memory and the event stream

But for a host write and a reset, no step changes source memory, and the events accepted and pending keep their order
(20_memory.md R50, R61). A host write changes one byte, and races with a command in progress (R62, R64). -/

namespace Sys2Proof.Machine

open Sys2Proof

/-! ## Steps of the block and the transport -/

/-- Source memory and the parameters stay from `s` to `t`, and the accepted events, with and without the pending ones behind
them, only grow at the end. -/
structure OutputStep (s t : State) : Prop where
  params : t.params = s.params
  mem : t.mem = s.mem
  accepted : s.accepted <+: t.accepted
  stream : s.accepted ++ s.pending <+: t.accepted ++ t.pending

theorem OutputStep.trans {s t u : State} (h : OutputStep s t) (h' : OutputStep t u) : OutputStep s u where
  params := h'.params.trans h.params
  mem := h'.mem.trans h.mem
  accepted := h.accepted.trans h'.accepted
  stream := h.stream.trans h'.stream

/-- Events may be emitted behind the pending ones. -/
theorem OutputStep.of_pending {s t : State} (hparams : t.params = s.params) (hmem : t.mem = s.mem)
    (haccepted : t.accepted = s.accepted) (hpending : s.pending <+: t.pending) : OutputStep s t where
  params := hparams
  mem := hmem
  accepted := haccepted ▸ List.prefix_refl _
  stream := by rwa [haccepted, List.prefix_append_right_inj]

/-- Nothing is emitted. -/
theorem OutputStep.of_eq {s t : State} (hparams : t.params = s.params) (hmem : t.mem = s.mem)
    (haccepted : t.accepted = s.accepted) (hpending : t.pending = s.pending) : OutputStep s t :=
  .of_pending hparams hmem haccepted (hpending ▸ List.prefix_refl _)

theorem BusEffect.output {s t : State} {op : BusOp} (h : BusEffect s op t) : OutputStep s t := by
  cases h with
  | read _ | flag _ | clear _ => exact .of_eq rfl rfl rfl rfl
  | store r d _ => cases r <;> exact .of_eq rfl rfl rfl rfl

theorem DecodeAction.output {s t : State} (h : DecodeAction s t) : OutputStep s t := by
  cases h with
  | finish | pixel _ _ _ | token _ _ _ => exact .of_pending rfl rfl rfl (List.prefix_append _ _)
  | lookup _ _ _ => exact .of_eq rfl rfl rfl rfl

theorem BlockEffect.output {s t : State} (h : BlockEffect s t) : OutputStep s t := by
  cases h with
  | none => exact .of_eq rfl rfl rfl rfl
  | @act x y _ _ _ _ haction =>
    have hreport : OutputStep s (s.report x y) := .of_eq rfl rfl rfl rfl
    exact hreport.trans haction.output

theorem blitEnvelope_pending (i : Instr) (extra : List Operand) (stride : Nat) (base : Word) (keys : Nat → Nat → Nat)
    (s : State) : s.pending <+: (blitEnvelope i extra stride base keys s).pending := by
  rcases hc : s.clipped with _ | ⟨w, h⟩
  · simp [blitEnvelope_dropped hc]
  · simp [blitEnvelope_started hc]

/-- An instruction emits its events behind the pending ones. -/
theorem ExecEffect.pending {i : Instr} {s t : State} (h : ExecEffect s i t) : s.pending <+: t.pending := by
  cases h with
  | same | rejected _ _ | noWidth _ _ | setrot _ _ => exact List.prefix_refl _
  | window | pixel _ | close _ | run _ _ _ => exact List.prefix_append _ _
  | blit _ _ hstart extra stride base keys =>
    rcases hstart with rfl | ⟨c, rfl⟩
    · exact blitEnvelope_pending i extra stride base keys (s.useOperands [.imgW])
    · exact blitEnvelope_pending i extra stride base keys (s.setFlagIf c .infoFlipIgnored)

theorem exec_output {i : Instr} {s t : State} (h : exec i s = .next t) : OutputStep s t := by
  obtain ⟨hparams, -, -, -, -, hmem, -, haccepted, -⟩ := (State.kept_butOrient_iff s t).mp (exec_kept h)
  exact .of_pending hparams hmem haccepted (exec_effect h).pending

/-- An acceptance moves the oldest pending event behind the accepted ones (R61). -/
theorem acceptEvent_output (s : State) : OutputStep s s.acceptEvent := by
  have htaken {e : Event} {rest : List Event} (hpending : s.pending = e :: rest) :
      OutputStep s ((s.passEvent e rest).closeOn e) := by
    have hpass : OutputStep s (s.passEvent e rest) := ⟨rfl, rfl, List.prefix_append _ _, by simp [hpending]⟩
    unfold State.closeOn
    split
    · exact hpass.trans (.of_eq rfl rfl rfl rfl)
    · exact hpass
  rcases s.acceptEvent_cases with ⟨-, hsame⟩ | ⟨e, rest, hpending, ⟨-, hnext⟩ | ⟨-, -, hnext⟩⟩
  · exact hsame.symm ▸ .of_eq rfl rfl rfl rfl
  · exact hnext ▸ htaken hpending
  · exact hnext ▸ (htaken hpending).trans (.of_eq rfl rfl rfl rfl)

/-! ## The step -/

/-- The host writes byte `b` at address `a` (R62). -/
def State.overwrite (a : Word) (b : Byte) (s : State) : State :=
  { s with
    mem := Memory.write s.mem a.toNat b
    raced := if s.busy then (a.toNat, Memory.read s.mem a.toNat) :: s.raced else s.raced }

theorem OutputStep.of_popped {s t : State} (h : OutputStep s.popped t) : OutputStep s t :=
  ⟨h.params, h.mem, h.accepted, h.stream⟩

/-- Every step but a host write and a reset keeps source memory and the order of the events. -/
theorem StepEffect.output {s t : State} (h : StepEffect s t) :
    OutputStep s t ∨
      (∃ a b rest, s.schedule = .hostStore a b :: rest ∧ s.inSource a = true ∧ t = s.popped.overwrite a b) ∨
      ∃ along rest, s.schedule = .reset along :: rest ∧ t = s.popped.resetBlock := by
  cases h with
  | transaction _ hbus hblock => exact .inl (hbus.output.trans hblock.output).of_popped
  | command _ _ hran => exact .inl (exec_output hran).of_popped
  | block hblock => exact .inl hblock.output.of_popped
  | accept => exact .inl (acceptEvent_output _).of_popped
  | hostStore hscheduled hin => exact .inr (.inl ⟨_, _, _, hscheduled, hin, rfl⟩)
  | reset hscheduled => exact .inr (.inr ⟨_, _, hscheduled, rfl⟩)

theorem step_of_hostStore {s : State} {a : Word} {b : Byte} {rest : List Move} (h : s.schedule = .hostStore a b :: rest)
    (hin : s.inSource a = true) : step s = .next (s.popped.overwrite a b) := by
  have hin' : s.popped.inSource a = true := hin
  rw [step, turn_of_cons h, moveTurn, hostStoreTurn, if_pos hin']
  rfl

/-! ## Memory after a host write -/

theorem State.MemoryOk.overwrite {s : State} {a : Word} (h : s.MemoryOk) (hin : s.inSource a = true) (b : Byte) :
    (s.overwrite a b).MemoryOk := by
  obtain ⟨hwf, hbelow⟩ := h
  refine ⟨Memory.write_wf hwf a.toNat b, fun c hc => ?_⟩
  rcases Memory.mem_write hc with hwritten | hold
  · exact hwritten ▸ of_decide_eq_true hin
  · exact hbelow c hold

/-- A read of a byte that exists gives a value it has held since accept (R62). -/
theorem State.readSource_mem_heldBytes {s : State} {a : Word} (key : Nat) (hin : s.inSource a = true) :
    s.readSource a key ∈ s.heldBytes a.toNat := by
  rw [State.readSource, if_pos hin]
  split
  · next hheld => simp [hheld]
  · have hpick : (Config.freeWord key).toNat % (s.heldBytes a.toNat).length < (s.heldBytes a.toNat).length :=
      Nat.mod_lt _ (by simp [State.heldBytes])
    rw [List.getD_eq_getElem _ _ hpick]
    exact List.getElem_mem hpick

/-- A read of a byte depends on the size of source memory and on the values the byte has held. -/
theorem State.readSource_congr_heldBytes {s t : State} {a : Word} (hparams : t.params = s.params)
    (hheld : t.heldBytes a.toNat = s.heldBytes a.toNat) (key : Nat) : t.readSource a key = s.readSource a key := by
  have hin : t.inSource a = s.inSource a := by rw [State.inSource, State.inSource, hparams]
  have hread : Memory.read t.mem a.toNat = Memory.read s.mem a.toNat := (List.cons.inj hheld).1
  rw [State.readSource, State.readSource, hin, hheld, hread]

/-- The first overwrite of a byte by the host leaves a command in progress the new and the old value (R62). -/
theorem State.heldBytes_overwrite_busy {s : State} (hbusy : s.busy = true) (hwf : Memory.wf s.mem = true)
    (hraced : s.raced = []) (a : Word) (b : Byte) :
    (s.overwrite a b).heldBytes a.toNat = [b, Memory.read s.mem a.toNat] := by
  simp [State.heldBytes, State.overwrite, hbusy, hraced, Memory.read_write_self hwf]

theorem State.heldBytes_overwrite_ne (s : State) {a : Word} {x : Nat} (hx : x ≠ a.toNat) (b : Byte) :
    (s.overwrite a b).heldBytes x = s.heldBytes x := by
  cases hbusy : s.busy <;> simp [State.heldBytes, State.overwrite, hbusy, Memory.read_write_ne hx, hx.symm]

/-- A host write to an idle block is seen by every later read (R64). -/
theorem State.readSource_overwrite_idle {s : State} {a : Word} (hin : s.inSource a = true) (hidle : s.busy = false)
    (hwf : Memory.wf s.mem = true) (hraced : s.raced = []) (b : Byte) (key : Nat) :
    (s.overwrite a b).readSource a key = b := by
  have hcalm : (s.overwrite a b).raced = [] := by simp [State.overwrite, hidle, hraced]
  exact (State.readSource_of_calm (s := s.overwrite a b) key hin hcalm).trans (Memory.read_write_self hwf a.toNat b)

end Sys2Proof.Machine

namespace Sys2Proof

open Sys2Proof.Machine

/-- Settles O9: only a host write changes source memory, and it keeps the canonical form at an address that exists. -/
theorem stepKeepsMemoryCanonical : Obligations.StepKeepsMemoryCanonical := by
  intro s t hs h
  rcases (step_effect h).output with hout | ⟨a, b, rest, -, hin, rfl⟩ | ⟨along, rest, -, rfl⟩
  · rw [State.MemoryOk, hout.mem, hout.params]
    exact hs
  · exact State.MemoryOk.overwrite (s := s.popped) hs hin b
  · exact hs

/-- Settles O13: a reset keeps source memory, as every step does that is no host write, and a host write writes one address. -/
theorem onlyTheHostWritesSourceMemory : Obligations.OnlyTheHostWritesSourceMemory := by
  intro s t h
  rcases (step_effect h).output with hout | ⟨a, b, rest, hs, -, rfl⟩ | ⟨along, rest, hs, rfl⟩
  · split
    · exact fun x _ => by rw [hout.mem]
    · exact hout.mem
  · rw [hs]
    exact fun x hx => Memory.read_write_ne hx b
  · rw [hs]
    rfl

/-- Settles O14: a host write touches no event and a reset no accepted one, and every other step keeps their order. -/
theorem eventsAreNeverLostOrReordered : Obligations.EventsAreNeverLostOrReordered := by
  intro s t h
  rcases (step_effect h).output with hout | ⟨a, b, rest, -, -, rfl⟩ | ⟨along, rest, hs, rfl⟩
  · exact ⟨hout.accepted, fun _ => hout.stream.imp fun _ => Eq.symm⟩
  · exact ⟨List.prefix_refl _, fun _ => ⟨[], (List.append_nil _).symm⟩⟩
  · exact ⟨List.prefix_refl _, fun hreset => absurd hs (hreset along rest)⟩

/-- Settles O47: while BUSY the values held are the new and the old one, and while idle the new one alone. -/
theorem hostWritesRaceOnlyWhileBusy : Obligations.HostWritesRaceOnlyWhileBusy := by
  intro s rest a b hs hin hwf hraced
  have hin : s.inSource a = true := decide_eq_true hin
  refine ⟨s.popped.overwrite a b, step_of_hostStore hs hin, by simp [State.overwrite, State.popped, hs],
    fun key => ⟨fun hbusy => ?_, fun hidle => ?_⟩, fun x key hx => ?_⟩
  · have hread := State.readSource_mem_heldBytes (s := s.popped.overwrite a b) key hin
    rw [State.heldBytes_overwrite_busy (s := s.popped) hbusy hwf hraced] at hread
    simpa [State.popped] using hread
  · exact State.readSource_overwrite_idle (s := s.popped) hin hidle hwf hraced b key
  · have hne : x.toNat ≠ a.toNat := fun heq => hx (BitVec.eq_of_toNat_eq heq)
    exact State.readSource_congr_heldBytes (s := s.popped) (t := s.popped.overwrite a b) rfl
      (s.popped.heldBytes_overwrite_ne hne b) key

end Sys2Proof
end

section
/-! # Command words and tokens

A command word is the concatenation of its six fields (30_encoding.md R73). The masks of R74 and R76 have the same layout, so
a mask keeps or clears whole fields, and decoding and encoding agree field by field. -/

namespace Sys2Proof

open Sys2Proof.Machine

/-! ## The fields of a word -/

/-- The word with these fields: bits 31:10, `rot`, bits 7:6, `fv`, `fh`, `op` (R73). -/
def wordOfFields (hi : BitVec 22) (rot mid : BitVec 2) (fv fh : Bool) (op : BitVec 4) : Word :=
  ((hi ++ rot) ++ ((mid ++ BitVec.ofBool fv) ++ BitVec.ofBool fh)) ++ op

theorem commandWord_eq_wordOfFields (rot : BitVec 2) (fv fh : Bool) (op : BitVec 4) :
    commandWord rot fv fh op = wordOfFields 0 rot 0 fv fh op := rfl

theorem wordOfFields_and (hi hi' : BitVec 22) (rot rot' mid mid' : BitVec 2) (fv fv' fh fh' : Bool) (op op' : BitVec 4) :
    wordOfFields hi rot mid fv fh op &&& wordOfFields hi' rot' mid' fv' fh' op' =
      wordOfFields (hi &&& hi') (rot &&& rot') (mid &&& mid') (fv && fv') (fh && fh') (op &&& op') := by
  simp only [wordOfFields, ← BitVec.ofBool_and_ofBool, ← BitVec.and_append]

theorem extractLsb'_eq_of_bits {w k start : Nat} {d : BitVec w} {x : BitVec k}
    (h : ∀ n, n < k → d.getLsbD (start + n) = x.getLsbD n) : d.extractLsb' start k = x :=
  BitVec.eq_of_getLsbD_eq fun n hn => by simp only [BitVec.getLsbD_extractLsb', hn, h n hn, decide_true, Bool.true_and]

section
variable (hi : BitVec 22) (rot mid : BitVec 2) (fv fh : Bool) (op : BitVec 4)

theorem getLsbD_wordOfFields (n : Nat) : (wordOfFields hi rot mid fv fh op).getLsbD n =
    if n < 4 then op.getLsbD n else if n = 4 then fh else if n = 5 then fv
      else if n < 8 then mid.getLsbD (n - 6) else if n < 10 then rot.getLsbD (n - 8) else hi.getLsbD (n - 10) := by
  unfold wordOfFields
  rw [BitVec.getLsbD_append (n := 28) (m := 4)]
  simp only [BitVec.getLsbD_append, BitVec.getLsbD_ofBool]
  grind

@[simp] theorem opField_wordOfFields : opField (wordOfFields hi rot mid fv fh op) = op :=
  extractLsb'_eq_of_bits fun n hn => by rw [getLsbD_wordOfFields]; grind

@[simp] theorem rotField_wordOfFields : rotField (wordOfFields hi rot mid fv fh op) = rot :=
  extractLsb'_eq_of_bits fun n hn => by rw [getLsbD_wordOfFields]; grind

@[simp] theorem flipHField_wordOfFields : flipHField (wordOfFields hi rot mid fv fh op) = fh :=
  getLsbD_wordOfFields hi rot mid fv fh op 4

@[simp] theorem flipVField_wordOfFields : flipVField (wordOfFields hi rot mid fv fh op) = fv :=
  getLsbD_wordOfFields hi rot mid fv fh op 5

theorem middle_wordOfFields : (wordOfFields hi rot mid fv fh op).extractLsb' 6 2 = mid :=
  extractLsb'_eq_of_bits fun n hn => by rw [getLsbD_wordOfFields]; grind

theorem high_wordOfFields : (wordOfFields hi rot mid fv fh op).extractLsb' 10 22 = hi :=
  extractLsb'_eq_of_bits fun n hn => by rw [getLsbD_wordOfFields]; grind

end

/-- Every word is made of the fields that the decoder and the legality check read. -/
theorem wordOfFields_fields (d : Word) :
    wordOfFields (d.extractLsb' 10 22) (rotField d) (d.extractLsb' 6 2) (flipVField d) (flipHField d) (opField d) = d := by
  refine BitVec.eq_of_getLsbD_eq fun n hn => ?_
  simp only [getLsbD_wordOfFields, rotField, flipVField, flipHField, opField, BitVec.getLsbD_extractLsb']
  grind

/-! ## The masks of R74 and R76 -/

/-- A mask with every reserved and opcode bit keeps those fields whole; the operand fields keep the bits it has. -/
theorem and_fieldMask (d : Word) (rot : BitVec 2) (fv fh : Bool) :
    d &&& wordOfFields (BitVec.allOnes 22) rot (BitVec.allOnes 2) fv fh (BitVec.allOnes 4) =
      wordOfFields (d.extractLsb' 10 22) (rotField d &&& rot) (d.extractLsb' 6 2) (flipVField d && fv) (flipHField d && fh)
        (opField d) := by
  conv_lhs => rw [← wordOfFields_fields d, wordOfFields_and]
  simp only [BitVec.and_allOnes]

/-- The match bits alone, for a command without operands. -/
theorem and_matchMask (d : Word) :
    d &&& 0xFFFFFCCF#32 = wordOfFields (d.extractLsb' 10 22) 0 (d.extractLsb' 6 2) false false (opField d) :=
  (and_fieldMask d 0 false false).trans (by simp)

/-- The match bits and `rot`, for SETROT. -/
theorem and_rotMask (d : Word) :
    d &&& 0xFFFFFFCF#32 = wordOfFields (d.extractLsb' 10 22) (rotField d) (d.extractLsb' 6 2) false false (opField d) :=
  (and_fieldMask d (BitVec.allOnes 2) false false).trans (by simp only [BitVec.and_allOnes, Bool.and_false])

/-- The match bits and the flips, for a blit. -/
theorem and_flipMask (d : Word) :
    d &&& 0xFFFFFCFF#32 =
      wordOfFields (d.extractLsb' 10 22) 0 (d.extractLsb' 6 2) (flipVField d) (flipHField d) (opField d) :=
  (and_fieldMask d 0 true true).trans (by simp)

/-! ## Decoding -/

theorem decodeCommand_eq_ok_iff (d : Word) (i : Instr) :
    decodeCommand d = .ok i ↔ CommandWord.HighClear d ∧ CommandWord.MiddleClear d ∧ commandOfOpcode d = .ok i := by
  unfold decodeCommand
  split
  · next hclear => exact ⟨fun h => ⟨hclear.1, hclear.2, h⟩, fun ⟨_, _, h⟩ => h⟩
  · next hset => exact ⟨nofun, fun ⟨hhigh, hmiddle, _⟩ => absurd ⟨hhigh, hmiddle⟩ hset⟩

/-- Where the reserved bits are clear the opcode row alone decides (R74). -/
theorem decodeCommand_wordOfFields (rot : BitVec 2) (fv fh : Bool) (op : BitVec 4) :
    decodeCommand (wordOfFields 0 rot 0 fv fh op) = commandOfOpcode (wordOfFields 0 rot 0 fv fh op) :=
  if_pos ⟨high_wordOfFields 0 rot 0 fv fh op, middle_wordOfFields 0 rot 0 fv fh op⟩

/-- The match bits of a word are the opcode `op` exactly when its reserved bits are clear and its opcode field is `op`. -/
theorem and_matchMask_eq_iff (d : Word) (op : BitVec 4) :
    d &&& 0xFFFFFCCF#32 = commandWord 0 false false op ↔
      CommandWord.HighClear d ∧ CommandWord.MiddleClear d ∧ opField d = op := by
  rw [and_matchMask, commandWord_eq_wordOfFields]
  constructor
  · intro h
    have hhigh := congrArg (BitVec.extractLsb' 10 22) h
    have hmiddle := congrArg (BitVec.extractLsb' 6 2) h
    have hop := congrArg opField h
    simp only [high_wordOfFields, middle_wordOfFields, opField_wordOfFields] at hhigh hmiddle hop
    exact ⟨hhigh, hmiddle, hop⟩
  · rintro ⟨hhigh, hmiddle, rfl⟩
    rw [hhigh, hmiddle]

/-- A word whose match bits are those of the row `op` decodes as that row says. -/
theorem decodeCommand_of_match {d : Word} (op : BitVec 4) {i : Instr}
    (hmatch : d &&& 0xFFFFFCCF#32 = commandWord 0 false false op) (hrow : opField d = op → commandOfOpcode d = .ok i) :
    decodeCommand d = .ok i := by
  obtain ⟨hhigh, hmiddle, hop⟩ := (and_matchMask_eq_iff d op).mp hmatch
  exact (decodeCommand_eq_ok_iff d i).mpr ⟨hhigh, hmiddle, hrow hop⟩

/-- An opcode of R74 is below 8. -/
theorem opcode_lt_of_commandOfOpcode {d : Word} {i : Instr} (h : commandOfOpcode d = .ok i) : (opField d).toNat < 8 := by
  unfold commandOfOpcode at h
  split at h
  case h_9 => cases h
  all_goals omega

theorem commandWord_mem_rows :
    ∀ op : BitVec 4, op.toNat < 8 → commandWord 0 false false op ∈ ([0, 1, 2, 3, 4, 5, 6, 7] : List Word) := by decide

/-- The match bits of a word that decodes are those of one of the eight rows (R74). -/
theorem and_matchMask_mem_rows {d : Word} {i : Instr} (h : decodeCommand d = .ok i) :
    d &&& 0xFFFFFCCF#32 ∈ ([0, 1, 2, 3, 4, 5, 6, 7] : List Word) := by
  obtain ⟨hhigh, hmiddle, hrow⟩ := (decodeCommand_eq_ok_iff d i).mp h
  rw [(and_matchMask_eq_iff d _).mpr ⟨hhigh, hmiddle, rfl⟩]
  exact commandWord_mem_rows _ (opcode_lt_of_commandOfOpcode hrow)

/-- Encoding what a command word decodes to gives back its match bits and operands, and 0 elsewhere (R74, R76). -/
theorem encode_of_decodeCommand {d : Word} {i : Instr} (h : decodeCommand d = .ok i) :
    encode i = .command (d &&& careMask i) := by
  obtain ⟨hhigh, hmiddle, hrow⟩ := (decodeCommand_eq_ok_iff d i).mp h
  have hop : opField d = BitVec.ofNat 4 (opField d).toNat := by simp
  unfold commandOfOpcode at hrow
  split at hrow
  case h_9 => cases hrow
  all_goals
    next hcode =>
      cases hrow
      rw [hcode] at hop
      simp [encode, careMask, commandWord_eq_wordOfFields, and_matchMask, and_rotMask, and_flipMask, hhigh, hmiddle, hop]

/-! ## Both ways -/

theorem decode_encode (i : Instr) : decode (encode i) = .ok i := by
  cases i with
  | run idx len =>
    simp [decode, encode, decodeToken, BitVec.extractLsb'_append_eq_left (w := 4),
      BitVec.extractLsb'_append_eq_right (w' := 4)]
  | nop | setrot _ | window | pixel | close | blit1 _ _ | blit4 _ _ | blitRle _ _ =>
    exact (decodeCommand_wordOfFields ..).trans (by simp [commandOfOpcode])

theorem encode_decodeToken (t : Byte) : encode (decodeToken t) = .token t := by
  have h := BitVec.extractLsb'_append_extractLsb' (w := 4) (len := 4) (x := t)
  simpa [encode, decodeToken] using h

/-- Settles O1: a command word that decodes is encoded again as its bits under `careMask`. -/
theorem encodingsAgreeBothWays : Obligations.EncodingsAgreeBothWays := by
  refine ⟨decode_encode, fun d i h => ⟨_, encode_of_decodeCommand h, ?_, ?_⟩, encode_decodeToken⟩
  · rw [BitVec.and_assoc, BitVec.and_self]
  · rw [BitVec.and_assoc, BitVec.and_not_self]
    exact BitVec.and_zero

/-- Settles O2: the match bits of a word are a row's opcode exactly when its reserved bits are clear and that is its opcode. -/
theorem commandWordsMatchOneRow : Obligations.CommandWordsMatchOneRow := by
  refine ⟨fun d => ?_, fun _ => rfl⟩
  dsimp only
  split_ifs with h0 h1 h2 h3 h4 h5 h6 h7
  · exact decodeCommand_of_match 0 h0 fun hop => by simp [commandOfOpcode, hop]
  · exact decodeCommand_of_match 1 h1 fun hop => by simp [commandOfOpcode, hop, rotField]
  · exact decodeCommand_of_match 2 h2 fun hop => by simp [commandOfOpcode, hop]
  · exact decodeCommand_of_match 3 h3 fun hop => by simp [commandOfOpcode, hop]
  · exact decodeCommand_of_match 4 h4 fun hop => by simp [commandOfOpcode, hop]
  · exact decodeCommand_of_match 5 h5 fun hop => by simp [commandOfOpcode, hop, flipHField, flipVField]
  · exact decodeCommand_of_match 6 h6 fun hop => by simp [commandOfOpcode, hop, flipHField, flipVField]
  · exact decodeCommand_of_match 7 h7 fun hop => by simp [commandOfOpcode, hop, flipHField, flipVField]
  · cases hdec : decodeCommand d with
    | error e => exact ⟨e, rfl⟩
    | ok i =>
      have hrow := and_matchMask_mem_rows hdec
      simp only [List.mem_cons, h0, h1, h2, h3, h4, h5, h6, h7, false_or, List.not_mem_nil] at hrow

/-- Settles O3: the decoder evaluates on the nine words. -/
theorem sampleWordsDecode : Obligations.SampleWordsDecode := by
  unfold Obligations.SampleWordsDecode
  decide

end Sys2Proof
end

section
/-! # Accepting an event

An accepted event leaves the block in order; `End` closes the window and the last event of a command ends BUSY
(30_encoding.md R84, 10_state.md R29, R30). -/

namespace Sys2Proof.Machine

open Sys2Proof

theorem step_of_accept {s : State} {rest : List Move} (h : s.schedule = .accept :: rest) :
    step s = .next s.popped.acceptEvent := by
  rw [step, turn_of_cons h]
  rfl

@[simp] theorem State.busy_closeOn (s : State) (e : Event) : (s.closeOn e).busy = s.busy := by
  unfold State.closeOn
  split <;> simp

@[simp] theorem State.winOpen_closeOn (s : State) (e : Event) :
    (s.closeOn e).winOpen = (s.winOpen && decide (e ≠ .fin)) := by
  unfold State.closeOn
  split <;> simp [*]

@[simp] theorem State.accepted_closeOn (s : State) (e : Event) : (s.closeOn e).accepted = s.accepted := by
  unfold State.closeOn
  split <;> simp

theorem State.closeOn_lateOk {s : State} (h : s.LateOk) (e : Event) : (s.closeOn e).LateOk := by
  unfold State.closeOn
  split <;> exact h

/-- The flags that settle at completion are flags of step 9 (60_exceptions.md R205). -/
theorem State.settledLate_within {s : State} (h : s.LateOk) : Within s.settledLate lateMask :=
  .or (.and h.1 _) (.ite _ (.zero _) ((Within.and h.1 _).and _))

/-- WIN_OPEN is no flag of step 9, so completion leaves it as it is. -/
theorem State.winOpen_complete {s : State} (h : s.LateOk) : s.complete.winOpen = s.winOpen := by
  have hbit : s.settledLate.getLsbD 1 = false := by
    by_contra hset
    exact absurd ((within_iff _ _).mp (State.settledLate_within h) 1 (by simpa using hset)) (by decide)
  simp_all [State.winOpen, State.complete, busyMask]

/-- What taking the oldest pending event does to the event stream, the decoders and the two state bits of STATUS. -/
theorem State.acceptEvent_of_pending {s : State} {e : Event} {es : List Event} (hlate : s.LateOk)
    (hpending : s.pending = e :: es) :
    s.acceptEvent.pending = es ∧ s.acceptEvent.accepted = s.accepted ++ [e] ∧
      s.acceptEvent.winOpen = (s.winOpen && decide (e ≠ .fin)) ∧
      s.acceptEvent.busy = (s.busy && (decide (es ≠ []) || s.decoding)) ∧
      s.acceptEvent.iter = s.iter ∧ s.acceptEvent.rle = s.rle := by
  rcases s.acceptEvent_cases with ⟨hempty, -⟩ | ⟨e', es', htaken, hnext⟩
  · simp [hempty] at hpending
  obtain ⟨rfl, rfl⟩ := List.cons.inj (hpending.symm.trans htaken)
  have hbusy : (s.passEvent e es).busy = s.busy := rfl
  have hopen : (s.passEvent e es).winOpen = s.winOpen := rfl
  rcases hnext with ⟨hleft, hnext⟩ | ⟨rfl, hdone, hnext⟩
  · simpa [hnext, hbusy, hopen] using fun _ => hleft
  · have hlate' : ((s.passEvent e []).closeOn e).LateOk := State.closeOn_lateOk (s := s.passEvent e []) hlate e
    simp [hnext, hdone, hopen, State.winOpen_complete hlate']

end Sys2Proof.Machine

namespace Sys2Proof

open Sys2Proof.Machine

/-- Settles O45: an acceptance passes the event on, closes the window on `End`, and completes the command if nothing is left. -/
theorem busyFallsWithTheLastEvent : Obligations.BusyFallsWithTheLastEvent := by
  intro s rest hs hlate
  rw [step_of_accept hs]
  constructor
  · intro hempty
    simp [State.acceptEvent, State.popped, hempty, hs]
  · intro e es hpending
    have hpopped : s.popped.pending = e :: es := hpending
    obtain ⟨hqueue, haccepted, hopen, hbusy, hiter, hrle⟩ := State.acceptEvent_of_pending (s := s.popped) hlate hpopped
    obtain ⟨hoperands, hpal, hoffx, hoffy, horient⟩ := (State.registers_eq_iff _ _).mp (acceptEvent_registers s.popped)
    exact ⟨_, rfl, hqueue, haccepted, hopen, hbusy.trans (by rw [Bool.or_assoc]; rfl), hoperands, hpal, hoffx, hoffy, horient,
      (acceptEvent_output _).mem, hiter, hrle⟩

end Sys2Proof
end

section
/-! # Dispatching a command

A word written to CMD is refused while BUSY, runs where it decodes, and is refused where it does not (40_control.md R100, R103,
R107). An RLE decoder fetches its next token and runs it (42_decoders.md R153). -/

namespace Sys2Proof.Machine

open Sys2Proof

theorem State.popped_of_cons {s : State} {m : Move} {rest : List Move} (h : s.schedule = m :: rest) :
    s.popped = { s with schedule := rest } := by
  rw [State.popped, h, List.tail_cons]

theorem step_of_cons {s : State} {m : Move} {rest : List Move} (h : s.schedule = m :: rest) :
    step s = finishTurn (moveTurn m { s with schedule := rest }) := by
  rw [step, turn_of_cons h, State.popped_of_cons h]

/-! ## A word written to CMD -/

section
variable {s : State} {d : Word} {rest : List Move}

theorem step_of_command (h : s.schedule = .bus (.write 0 d) :: rest) :
    step s = finishTurn (commandTurn d { s with schedule := rest }) :=
  step_of_cons h

theorem step_of_command_busy (h : s.schedule = .bus (.write 0 d) :: rest) (hbusy : s.busy = true) :
    step s = .next { s with schedule := rest, status := s.status ||| 0x200#32 } := by
  have hbusy' : State.busy { s with schedule := rest } = true := hbusy
  rw [step_of_command h, commandTurn, if_pos hbusy']
  rfl

theorem step_of_command_legal {i : Instr} (h : s.schedule = .bus (.write 0 d) :: rest) (hidle : s.busy = false)
    (hlegal : decodeCommand d = .ok i) : step s = exec i { s with schedule := rest } := by
  have hidle' : State.busy { s with schedule := rest } = false := hidle
  simp only [step_of_command h, commandTurn, hidle', hlegal, Bool.false_eq_true, if_false, finishTurn]

theorem step_of_command_illegal {e : DecodeError} (h : s.schedule = .bus (.write 0 d) :: rest) (hidle : s.busy = false)
    (hillegal : decodeCommand d = .error e) :
    step s = .next { s with schedule := rest, status := s.status ||| 0x100#32 } := by
  have hidle' : State.busy { s with schedule := rest } = false := hidle
  simp only [step_of_command h, commandTurn, hidle', hillegal, Bool.false_eq_true, if_false, finishTurn]
  rfl

end

/-! ## Illegal words -/

/-- A word that is not well-formed does not decode (30_encoding.md R75). -/
theorem decodeCommand_eq_error {d : Word} (h : ¬ CommandWord.WellFormed d) : ∃ e, decodeCommand d = .error e := by
  cases hdec : decodeCommand d with
  | error e => exact ⟨e, rfl⟩
  | ok i =>
    obtain ⟨hhigh, hmiddle, hrow⟩ := (decodeCommand_eq_ok_iff d i).mp hdec
    exact absurd ⟨opcode_lt_of_commandOfOpcode hrow, hmiddle, hhigh⟩ h

/-- The reserved bits of a word, 31:10 and 7:6 (30_encoding.md R73). -/
theorem and_reservedMask (d : Word) :
    d &&& 0xFFFFFCC0#32 = wordOfFields (d.extractLsb' 10 22) 0 (d.extractLsb' 6 2) false false 0 := by
  have hmask : 0xFFFFFCC0#32 = wordOfFields (BitVec.allOnes 22) 0 (BitVec.allOnes 2) false false 0 := rfl
  conv_lhs => rw [← wordOfFields_fields d, hmask, wordOfFields_and]
  rw [BitVec.and_allOnes, BitVec.and_allOnes, Bool.and_false, Bool.and_false]
  congr 1 <;> exact BitVec.and_zero

/-- The refusals every command shares, whatever its opcode (40_control.md R100, R107). -/
theorem commandRefusals (op : Nat) : CommandRefusals op := by
  intro s d rest hs _
  refine ⟨step_of_command_busy hs, fun hidle hreserved => ?_⟩
  have hillegal : ¬ CommandWord.WellFormed d := by
    rintro ⟨-, hmiddle, hhigh⟩
    exact hreserved (by rw [and_reservedMask, hmiddle, hhigh]; rfl)
  obtain ⟨e, hdec⟩ := decodeCommand_eq_error hillegal
  exact step_of_command_illegal hs hidle hdec

/-! ## Tokens -/

/-- The state in which a fetched token runs (42_decoders.md R153, 20_memory.md R52). -/
theorem State.fetchToken_eq (s : State) (r : Rle) :
    s.fetchToken r = { s with
      rle := some { r with tp := r.tp + 1 }
      raised := if r.tp.toNat < s.params.srcSize then s.raised else s.raised ||| 0x8000#32 } := by
  by_cases hin : r.tp.toNat < s.params.srcSize
  · simp [State.fetchToken, State.noteRange, State.raiseIf, State.inSource, hin]
  · simp [State.fetchToken, State.noteRange, State.raiseIf, State.inSource, hin]
    rfl

theorem blockTurn_of_token {s : State} {r : Rle} (hr : s.rle = some r) (hleft : r.p < r.budget) :
    blockTurn s = .run (decodeToken (s.tokenByte r)) (s.fetchToken r) := by
  simp [blockTurn, hr, rleTurn, Rle.finished, hleft]

end Sys2Proof.Machine

namespace Sys2Proof

open Sys2Proof.Machine

/-- Settles O23, by the dispatch of a legal word and the fetch of a token. -/
theorem stepRunsTheDecodedInstruction : Obligations.StepRunsTheDecodedInstruction := by
  refine ⟨fun _ _ _ _ => step_of_command_legal, fun s r rest hs hr hleft => ?_⟩
  have hturn := blockTurn_of_token (s := { s with schedule := rest }) hr hleft
  rw [step_of_cons hs, moveTurn, hturn, State.fetchToken_eq]
  rfl

/-- Settles O24: an illegal word is not well-formed. -/
theorem illegalWordsAreRefused : Obligations.IllegalWordsAreRefused := by
  intro s d rest hs hbits
  cases hbusy : s.busy with
  | true => exact step_of_command_busy hs hbusy
  | false =>
    have hillegal : ¬ CommandWord.WellFormed d := by
      rintro ⟨hop, hmiddle, hhigh⟩
      rcases hbits with hbit | hbit | hbit
      · omega
      · exact hbit hhigh
      · exact hbit hmiddle
    obtain ⟨e, hdec⟩ := decodeCommand_eq_error hillegal
    exact step_of_command_illegal hs hbusy hdec

/-- Settles O25: NOP answers the state it is given, and shares the refusals of every command. -/
theorem nopChangesNothing : Obligations.NopChangesNothing := ⟨commandRefusals 0, fun _ => rfl⟩

end Sys2Proof
end

section
/-! # SETROT and the orientation

SETROT loads the table's offsets and the native panel size, swapped for an odd rotation, and is the only instruction that
touches the orientation state (40_control.md R105, 10_state.md R27). -/

namespace Sys2Proof.Machine

open Sys2Proof

theorem exec_setrot_open {s : State} (hopen : s.winOpen = true) (r : BitVec 2) :
    exec (.setrot r) s = .next (s.reject .errWinOpen) :=
  if_pos hopen

theorem exec_setrot_closed {s : State} (hclosed : s.winOpen = false) (r : BitVec 2) :
    exec (.setrot r) s = .next { s.useOffsets r with orient := s.orientationFor r } :=
  if_neg (by simp [hclosed])

/-- Offsets whose marks are set are read without a record (60_exceptions.md R213). -/
theorem State.useOffsets_of_written {s : State} {r : BitVec 2} (hx : (s.offxEntry r).written = true)
    (hy : (s.offyEntry r).written = true) : (s.useOffsets r).modelFault = s.modelFault := by
  simp [State.useOffsets, firstUnwritten, hx, hy]

/-! ## The panel size and the parameters -/

theorem State.PanelOk.of_eq {s t : State} (h : s.PanelOk) (horient : t.orient = s.orient) (hparams : t.params = s.params) :
    t.PanelOk := by
  rwa [State.PanelOk, horient, hparams]

/-- SETROT sets the panel size of its rotation, and no other instruction changes the orientation state. -/
theorem exec_panelOk {i : Instr} {s t : State} (hs : s.PanelOk) (h : exec i s = .next t) : t.PanelOk := by
  obtain ⟨hparams, -⟩ := (State.kept_butOrient_iff s t).mp (exec_kept h)
  by_cases hi : ∃ r, i = .setrot r
  · obtain ⟨r, rfl⟩ := hi
    cases hwin : s.winOpen with
    | true =>
      cases (exec_setrot_open hwin r).symm.trans h
      exact hs
    | false =>
      cases (exec_setrot_closed hwin r).symm.trans h
      exact ⟨rfl, rfl⟩
  · exact hs.of_eq (exec_orient (not_exists.mp hi) h) hparams

theorem step_params {s t : State} (h : step s = .next t) : t.params = s.params := by
  rcases (step_effect h).output with hout | ⟨a, b, rest, -, -, rfl⟩ | ⟨along, rest, -, rfl⟩
  · exact hout.params
  · rfl
  · rfl

end Sys2Proof.Machine

namespace Sys2Proof

open Sys2Proof.Machine

/-- Settles O10: a reset gives rotation 0 the native size, SETROT sizes the panel for its rotation, and no other step changes
the orientation state. -/
theorem stepKeepsPanelSizeAndParameters : Obligations.StepKeepsPanelSizeAndParameters := by
  intro s t hs h
  refine ⟨?_, step_params h⟩
  by_cases hreset : ∃ along rest, s.schedule = .reset along :: rest
  · obtain ⟨along, rest, hsched⟩ := hreset
    rw [step_of_cons hsched] at h
    cases h
    exact ⟨rfl, rfl⟩
  rcases (step_effect h).registers (by simpa using hreset) with hsame | ⟨-, ⟨r, d, hstored⟩ | ⟨i, -, hran⟩⟩
  · obtain ⟨-, -, -, -, horient⟩ := (State.registers_eq_iff s t).mp hsame
    exact hs.of_eq horient (step_params h)
  · obtain ⟨-, -, -, -, horient⟩ := (State.registers_eq_iff _ t).mp hstored
    exact hs.of_eq (horient.trans (State.storeReg_orient _ r d)) (step_params h)
  · exact exec_panelOk (s := s.popped) hs hran

/-- Settles O26: with a window open SETROT is refused, else it loads the orientation of its rotation. -/
theorem setrotLoadsTheOrientation : Obligations.SetrotLoadsTheOrientation := by
  refine ⟨commandRefusals 1, fun s r => ⟨fun hopen => exec_setrot_open hopen r, fun hclosed => ?_⟩⟩
  refine ⟨_, exec_setrot_closed hclosed r, rfl, rfl, rfl, rfl, ?_, State.useOffsets_of_written⟩
  split
  · next heven => exact ⟨if_pos heven, if_pos heven⟩
  · next hodd => exact ⟨if_neg hodd, if_neg hodd⟩

end Sys2Proof
end

section
/-! # The register bus

A bus transaction, register by register: the register map (30_encoding.md R71), what a write stores (40_control.md R100), which
flags a STATUS write clears (R102), and the data a read returns (R101). -/

namespace Sys2Proof.Machine

open Sys2Proof

/-! ## The register map -/

theorem RegId.number_ofNumber : ∀ a : BitVec 6, (RegId.ofNumber a).number = a := by decide

theorem RegId.offx_number_toNat : ∀ r : BitVec 2, (RegId.offx r).number.toNat = 0x14 + r.toNat := by decide

theorem RegId.offy_number_toNat : ∀ r : BitVec 2, (RegId.offy r).number.toNat = 0x18 + r.toNat := by decide

theorem RegId.pal_number_toNat : ∀ k : BitVec 4, (RegId.pal k).number.toNat = 0x20 + k.toNat := by decide

/-- Whether a bus write stores to the register (10_state.md R22). -/
def RegId.hostWritten : RegId → Bool
  | .operand _ | .offx _ | .offy _ | .pal _ => true
  | .cmd | .status | .rot | .xoff | .yoff | .panelW | .panelH | .reserved _ => false

theorem RegId.ne_cmd_of_hostWritten {r : RegId} (h : r.hostWritten = true) : r ≠ .cmd := by
  rintro rfl
  cases h

theorem RegId.ofNumber_number_offx : ∀ r : BitVec 2, RegId.ofNumber (RegId.offx r).number = .offx r := by decide

theorem RegId.ofNumber_number_offy : ∀ r : BitVec 2, RegId.ofNumber (RegId.offy r).number = .offy r := by decide

theorem RegId.ofNumber_number_pal : ∀ k : BitVec 4, RegId.ofNumber (RegId.pal k).number = .pal k := by decide

theorem RegId.ofNumber_number {r : RegId} (h : r.hostWritten = true) : RegId.ofNumber r.number = r := by
  cases r with
  | operand o => cases o <;> rfl
  | offx r => exact ofNumber_number_offx r
  | offy r => exact ofNumber_number_offy r
  | pal k => exact ofNumber_number_pal k
  | cmd | status | rot | xoff | yoff | panelW | panelH | reserved _ => cases h

/-- The number of a host-written register names that register alone. -/
theorem RegId.number_eq_iff {r : RegId} (h : r.hostWritten = true) (a : BitVec 6) :
    r.number = a ↔ RegId.ofNumber a = r := by
  constructor
  · rintro rfl
    exact RegId.ofNumber_number h
  · rintro rfl
    exact RegId.number_ofNumber a

theorem RegId.ofNumber_reserved : ∀ a : BitVec 6,
    (a.toNat = 0x13 ∨ (0x1C ≤ a.toNat ∧ a.toNat ≤ 0x1F) ∨ 0x30 ≤ a.toNat) →
      RegId.ofNumber a = .reserved a := by decide

/-- The numbers a write to which is illegal: the reserved ones and those of the read-only orientation registers (R100). -/
abbrev IllegalToWrite (a : BitVec 6) : Prop :=
  a.toNat = 0x13 ∨ (0x1C ≤ a.toNat ∧ a.toNat ≤ 0x1F) ∨ 0x30 ≤ a.toNat ∨ (0x0E ≤ a.toNat ∧ a.toNat ≤ 0x12)

theorem RegId.ofNumber_of_illegal : ∀ a : BitVec 6, IllegalToWrite a →
    RegId.ofNumber a ∈ [.rot, .xoff, .yoff, .panelW, .panelH, .reserved a] := by decide

theorem RegId.hostWritten_ofNumber : ∀ a : BitVec 6, ¬ IllegalToWrite a → a.toNat ≠ 0x01 → a.toNat ≠ 0x00 →
    (RegId.ofNumber a).hostWritten = true := by decide

/-! ## What a write stores -/

theorem OperandFile.value_store (f : OperandFile) (o o' : Operand) (d : Word) :
    (f.store o d).value o' = if o = o' then (d.setWidth o'.width).setWidth 32 else f.value o' := by
  cases o <;> cases o' <;> simp [OperandFile.store, OperandFile.value, Marked.store, Operand.width]

theorem toNat_truncated (d : Word) (w : Nat) : ((d.setWidth w).setWidth 32).toNat = d.toNat % 2 ^ w := by
  have hle : d.toNat % 2 ^ w < 2 ^ 32 := Nat.lt_of_le_of_lt (Nat.mod_le _ _) d.isLt
  rw [BitVec.toNat_setWidth, BitVec.toNat_setWidth, Nat.mod_eq_of_lt hle]

section
variable (s : State) (r : RegId) (d : Word)

theorem State.storeReg_eq :
    s.storeReg r d = { s with
      operands := (s.storeReg r d).operands
      pal := (s.storeReg r d).pal
      offx := (s.storeReg r d).offx
      offy := (s.storeReg r d).offy } := by
  cases r <;> rfl

/-- A parameter register takes the low bits of the data and its mark where it is the one written, and else stays. -/
theorem State.operand_storeReg (o : Operand) :
    if r = .operand o then
      (s.storeReg r d).operands.written o = true ∧ ((s.storeReg r d).operands.value o).toNat = d.toNat % 2 ^ o.width
    else
      (s.storeReg r d).operands.written o = s.operands.written o ∧
        (s.storeReg r d).operands.value o = s.operands.value o := by
  split
  · next hr =>
    subst hr
    simp only [State.storeReg, OperandFile.written_store, OperandFile.value_store, if_true, decide_true, Bool.true_or,
      toNat_truncated, true_and]
  · next hr =>
    cases r with
    | operand o' =>
      have hne : o' ≠ o := fun h => hr (h ▸ rfl)
      simp [State.storeReg, OperandFile.written_store, OperandFile.value_store, hne, hne.symm]
    | cmd | status | rot | xoff | yoff | panelW | panelH | offx _ | offy _ | pal _ | reserved _ => exact ⟨rfl, rfl⟩

theorem State.offxEntry_storeReg (k : BitVec 2) :
    (s.storeReg r d).offxEntry k = if r = .offx k then Marked.store 16 d else s.offxEntry k := by
  cases r <;> simp [State.storeReg, State.offxEntry, Vector.getElem_set, BitVec.toNat_inj]

theorem State.offyEntry_storeReg (k : BitVec 2) :
    (s.storeReg r d).offyEntry k = if r = .offy k then Marked.store 16 d else s.offyEntry k := by
  cases r <;> simp [State.storeReg, State.offyEntry, Vector.getElem_set, BitVec.toNat_inj]

theorem State.palEntry_storeReg (k : BitVec 4) :
    (s.storeReg r d).palEntry k = if r = .pal k then Marked.store 16 d else s.palEntry k := by
  cases r <;> simp [State.storeReg, State.palEntry, Vector.getElem_set, BitVec.toNat_inj]

end

theorem State.regWrite_of_hostWritten {r : RegId} (h : r.hostWritten = true) (s : State) (d : Word) :
    s.regWrite r d = s.storeIdle r d := by
  cases r with
  | operand _ | offx _ | offy _ | pal _ => rfl
  | cmd | status | rot | xoff | yoff | panelW | panelH | reserved _ => cases h

theorem State.regWrite_of_illegal {a : BitVec 6} (h : IllegalToWrite a) (s : State) (d : Word) :
    s.regWrite (RegId.ofNumber a) d = s.reject .errIllegal := by
  have hmem := RegId.ofNumber_of_illegal a h
  simp only [List.mem_cons, List.not_mem_nil, or_false] at hmem
  rcases hmem with hr | hr | hr | hr | hr | hr <;> rw [hr] <;> rfl

/-! ## A write transaction -/

section
variable {s : State} {a : BitVec 6} {d : Word} {rest : List Move}

theorem step_of_write (h : s.schedule = .bus (.write a d) :: rest) (hcmd : RegId.ofNumber a ≠ .cmd) :
    step s = .next (State.regWrite (RegId.ofNumber a) d { s with schedule := rest }) := by
  rw [step_of_cons h, moveTurn, busTurn, if_neg hcmd]
  rfl

theorem step_of_write_illegal (h : s.schedule = .bus (.write a d) :: rest) (hillegal : IllegalToWrite a) :
    step s = .next { s with schedule := rest, status := s.status ||| 0x100#32 } := by
  have hcmd : RegId.ofNumber a ≠ .cmd := by
    intro hr
    simpa [hr] using RegId.ofNumber_of_illegal a hillegal
  rw [step_of_write h hcmd, State.regWrite_of_illegal hillegal]
  rfl

theorem step_of_write_status (h : s.schedule = .bus (.write 1 d) :: rest) :
    step s = .next (State.statusWrite d { s with schedule := rest }) :=
  step_of_write h (by decide)

theorem step_of_write_busy (h : s.schedule = .bus (.write a d) :: rest) (hwritten : (RegId.ofNumber a).hostWritten = true)
    (hbusy : s.busy = true) : step s = .next { s with schedule := rest, status := s.status ||| 0x200#32 } := by
  have hbusy' : State.busy { s with schedule := rest } = true := hbusy
  rw [step_of_write h (RegId.ne_cmd_of_hostWritten hwritten), State.regWrite_of_hostWritten hwritten, State.storeIdle,
    if_pos hbusy']
  rfl

theorem step_of_write_idle (h : s.schedule = .bus (.write a d) :: rest) (hwritten : (RegId.ofNumber a).hostWritten = true)
    (hidle : ¬ s.busy = true) :
    step s = .next (State.storeReg (RegId.ofNumber a) d { s with schedule := rest }) := by
  have hidle' : ¬ State.busy { s with schedule := rest } = true := hidle
  rw [step_of_write h (RegId.ne_cmd_of_hostWritten hwritten), State.regWrite_of_hostWritten hwritten, State.storeIdle,
    if_neg hidle']

end

/-! ## A STATUS write -/

theorem getLsbD_stickyMask (n : Nat) : stickyMask.getLsbD n = (decide (8 ≤ n) && decide (n ≤ 18)) := by
  have hmask : stickyMask = (BitVec.allOnes 11).setWidth 32 <<< 8 := rfl
  rw [hmask, BitVec.getLsbD_shiftLeft, BitVec.getLsbD_setWidth, BitVec.getLsbD_allOnes]
  grind

theorem getLsbD_lateMask {n : Nat} (hlow : 13 ≤ n) (hhigh : n ≤ 15) : lateMask.getLsbD n = true := by
  interval_cases n <;> rfl

theorem State.getLsbD_statusWrite (s : State) (d : Word) (n : Nat) :
    (s.statusWrite d).status.getLsbD n = (s.status.getLsbD n && !(decide (8 ≤ n) && decide (n ≤ 18) && d.getLsbD n)) := by
  by_cases hn : n < 32
  · simp [-BitVec.getLsbD_eq_getElem, State.statusWrite, getLsbD_stickyMask, hn, Bool.and_comm]
  · simp [State.statusWrite, BitVec.getLsbD_of_ge _ n (Nat.le_of_not_lt hn)]

/-- Of the flags a transaction of the same step clears, those the block's action raises show after it (R102). -/
theorem sameStepBlock_shows {s t : State} {m : Word} {n : Nat} (hn : 8 ≤ n) (hm : m.getLsbD n = true)
    (hraises : s.raisesNow.getLsbD n = true) (h : finishTurn (sameStepBlock m s) = .next t) :
    t.status.getLsbD n = true := by
  have hshown (u : State) (hu : u.raised.getLsbD n = true) : (u.setAfterClear m s.raised).status.getLsbD n = true := by
    simp [-BitVec.getLsbD_eq_getElem, State.setAfterClear, hu, hm]
  rw [sameStepBlock] at h
  unfold State.raisesNow at hraises
  cases hturn : blockTurn { s with raised := 0 } with
  | run i u =>
    rw [hturn] at h hraises
    exact (exec_effect h).statusStep.sticky n hn (by simp) (hshown u hraises)
  | done u =>
    rw [hturn] at h hraises
    cases h
    exact hshown u hraises
  | stop f =>
    rw [hturn] at h
    cases h

theorem step_of_write_status_withBlock {s : State} {d : Word} {rest : List Move} (hbusy : s.busy = true)
    (h : s.schedule = .busWithBlock (.write 1 d) :: rest) :
    step s = finishTurn (sameStepBlock (d &&& lateMask) (State.statusWrite d { s with schedule := rest })) := by
  have hturn : busTurn (.write 1 d) { s with schedule := rest } = .done (State.statusWrite d { s with schedule := rest }) :=
    rfl
  have hbusy' : State.busy { s with schedule := rest } = true := hbusy
  rw [step_of_cons h, moveTurn, busBlockTurn, hturn]
  simp only [hbusy', if_true]
  rfl

/-! ## A read transaction -/

theorem step_of_read {s : State} {a : BitVec 6} {rest : List Move} (h : s.schedule = .bus (.read a) :: rest) :
    step s = .next (State.regRead (RegId.ofNumber a) { s with schedule := rest }) :=
  step_of_cons h

theorem State.regRead_eq (s : State) (r : RegId) :
    s.regRead r = { s with
      status := (s.regRead r).status, readData := (s.regRead r).readData, draws := (s.regRead r).draws } := by
  cases r <;> rfl

/-- A register whose mark is set reads as its value, another as some value of its width (R101). -/
theorem State.operandData_cases (s : State) (o : Operand) :
    if s.operands.written o then s.operandData o = s.operands.value o else (s.operandData o).toNat < 2 ^ o.width := by
  unfold State.operandData
  split
  · rfl
  · rw [toNat_truncated]
    exact Nat.mod_lt _ (Nat.two_pow_pos _)

theorem State.markedData_cases (s : State) {w : Nat} (m : Marked w) :
    if m.written then s.markedData m = m.value.setWidth 32 else (s.markedData m).toNat < 2 ^ w := by
  unfold State.markedData
  split
  · rfl
  · rw [toNat_truncated]
    exact Nat.mod_lt _ (Nat.two_pow_pos _)

/-- A read of STATUS shows the bits of STATUS and no others but flags the command in progress has raised (60_exceptions.md
R205). -/
theorem State.showStatus_bounds (s : State) :
    Within s.status s.showStatus.status ∧ Within s.showStatus.status (s.status ||| s.raised) := by
  simp only [within_iff, BitVec.getLsbD_or, Bool.or_eq_true]
  refine ⟨fun n hn => ?_, fun n => s.showStatus_status_sub n⟩
  simp [-BitVec.getLsbD_eq_getElem, State.showStatus, hn]

end Sys2Proof.Machine

namespace Sys2Proof

open Sys2Proof.Machine

/-- Settles O20, in the order of the checks; a write that passes them all stores to the register its number names. -/
theorem regWriteFollowsItsChecks : Obligations.RegWriteFollowsItsChecks := by
  intro s a d rest hs
  split_ifs with hillegal hstatus hbusy hcmd
  · exact step_of_write_illegal hs hillegal
  · obtain rfl : a = 1 := BitVec.eq_of_toNat_eq hstatus
    exact step_of_write_status hs
  · by_cases hcmd : a.toNat = 0x00
    · obtain rfl : a = 0 := BitVec.eq_of_toNat_eq hcmd
      exact step_of_command_busy hs hbusy
    · exact step_of_write_busy hs (RegId.hostWritten_ofNumber a hillegal hstatus hcmd) hbusy
  · obtain rfl : a = 0 := BitVec.eq_of_toNat_eq hcmd
    have hidle : s.busy = false := by simpa using hbusy
    cases hdec : decodeCommand d with
    | ok i => exact step_of_command_legal hs hidle hdec
    | error e => exact step_of_command_illegal hs hidle hdec
  · have hwritten := RegId.hostWritten_ofNumber a hillegal hstatus hcmd
    refine ⟨_, step_of_write_idle hs hwritten hbusy, State.storeReg_eq _ _ d, fun o => ?_, fun r => ?_, fun r => ?_,
      fun k => ?_⟩
    · simp only [RegId.number_eq_iff (r := .operand o) rfl]
      exact State.operand_storeReg _ _ d o
    · simp only [RegId.number_eq_iff (r := .offx r) rfl]
      exact State.offxEntry_storeReg _ _ d r
    · simp only [RegId.number_eq_iff (r := .offy r) rfl]
      exact State.offyEntry_storeReg _ _ d r
    · simp only [RegId.number_eq_iff (r := .pal k) rfl]
      exact State.palEntry_storeReg _ _ d k

/-- Settles O21: the write clears its sticky bits, and the block's action of the same step comes after it. -/
theorem statusWriteClearsExactlyItsBits : Obligations.StatusWriteClearsExactlyItsBits := by
  constructor
  · intro s d rest hs
    exact ⟨_, step_of_write_status hs, rfl, State.getLsbD_statusWrite _ d⟩
  · intro s t d rest n hbusy hs h hlow hhigh hd hraises
    rw [step_of_write_status_withBlock hbusy hs] at h
    exact sameStepBlock_shows (by omega) (by rw [BitVec.getLsbD_and, hd, getLsbD_lateMask hlow hhigh]; rfl) hraises h

/-- Settles O22: the register map number by number, and the data of a read register by register. -/
theorem regReadReturnsTheRegister : Obligations.RegReadReturnsTheRegister := by
  refine ⟨RegId.number_ofNumber, RegId.ofNumber_reserved, rfl, rfl,
    fun r => ⟨RegId.offx_number_toNat r, RegId.offy_number_toNat r⟩, RegId.pal_number_toNat, fun s a rest hs => ?_⟩
  refine ⟨_, step_of_read hs, State.regRead_eq _ _, ?_⟩
  cases RegId.ofNumber a with
  | cmd | reserved _ | rot | xoff | yoff | panelW | panelH | offx _ | offy _ => exact ⟨rfl, rfl⟩
  | status => exact ⟨rfl, State.showStatus_bounds { s with schedule := rest }⟩
  | operand o => exact ⟨rfl, State.operandData_cases { s with schedule := rest } o⟩
  | pal k => exact ⟨rfl, State.markedData_cases { s with schedule := rest } (s.palEntry k)⟩

end Sys2Proof
end

section
/-! # The addressing window and its pixels

WINDOW opens a window and sends its header, PIXEL sends COLOR into an open window, CLOSE ends it (41_window_pixel.md R121 to
R126). Each begins its command in the state it is given but for WIN_OPEN and the record of unwritten reads. -/

namespace Sys2Proof.Machine

open Sys2Proof

/-! ## What the three commands do to the state -/

/-- Reading parameter registers changes the record of R213 alone. -/
theorem State.useOperands_eq (s : State) (os : List Operand) :
    s.useOperands os = { s with modelFault := s.faultAfter os } := rfl

theorem State.beginCommand_eq (s : State) (i : Instr) (es : List Event) :
    s.beginCommand i es =
      { s with status := s.status ||| busyMask, current := some i, pending := s.pending ++ es } := rfl

/-- WIN_OPEN and BUSY set together, as the header of a window does (41_window_pixel.md R121). -/
theorem State.openWindow_status (s : State) : (s.setWinOpen true).status ||| busyMask = s.status ||| 0x3#32 :=
  BitVec.or_assoc ..

/-! ## What each command answers -/

section
variable {s : State}

/-- WINDOW does not ask whether a window is open (41_window_pixel.md R122). -/
theorem exec_window : exec .window s = .next
    (((s.useOperands [.dstX, .dstY, .winX1, .winY1]).setWinOpen true).beginCommand .window s.windowHeader) := rfl

theorem exec_pixel_open (hopen : s.winOpen = true) :
    exec .pixel s = .next ((s.useOperands [.color]).beginCommand .pixel (pixelEvents s.operands.color.value)) :=
  if_pos hopen

theorem exec_pixel_closed (hclosed : s.winOpen = false) : exec .pixel s = .next (s.reject .errNoWin) :=
  if_neg (by simp [hclosed])

theorem exec_close_open (hopen : s.winOpen = true) :
    exec .close s = .next ((s.setWinOpen false).beginCommand .close [.fin]) :=
  if_pos hopen

theorem exec_close_closed (hclosed : s.winOpen = false) : exec .close s = .next s :=
  if_neg (by simp [hclosed])

end

end Sys2Proof.Machine

namespace Sys2Proof

open Sys2Proof.Machine

/-- Settles O27: one run for every state, since WINDOW asks neither for an open window nor for its bounds. -/
theorem windowSendsItsHeader : Obligations.WindowSendsItsHeader := by
  refine ⟨commandRefusals 2, fun s => ?_⟩
  rw [exec_window, State.beginCommand_eq, State.openWindow_status, State.useOperands_eq]
  rfl

/-- Settles O28, by the two cases of WIN_OPEN. -/
theorem pixelSendsTheColor : Obligations.PixelSendsTheColor := by
  refine ⟨commandRefusals 3, fun s => ⟨exec_pixel_closed, fun hopen => ?_⟩⟩
  rw [exec_pixel_open hopen, State.beginCommand_eq, State.useOperands_eq]
  rfl

/-- Settles O29, by the two cases of WIN_OPEN. -/
theorem closeEndsTheWindow : Obligations.CloseEndsTheWindow := by
  refine ⟨commandRefusals 4, fun s => ⟨exec_close_closed, fun hopen => ?_⟩⟩
  rw [exec_close_open hopen, State.beginCommand_eq]
  rfl

end Sys2Proof
end

section
/-! # Decode actions

One decode action of the block: a pixel of a BLIT1 or BLIT4 (42_decoders.md R144, R148), the table lookup of a BLITRLE (R150), or
`End` after the last pixel (R155). -/

namespace Sys2Proof.Machine

open Sys2Proof

theorem step_of_block {s : State} {rest : List Move} (h : s.schedule = .block :: rest) :
    step s = finishTurn (blockTurn { s with schedule := rest }) :=
  step_of_cons h

theorem blockTurn_of_rle {s : State} {r : Rle} (hr : s.rle = some r) : blockTurn s = rleTurn r s := by
  simp [blockTurn, hr]

theorem blockTurn_of_iter {s : State} {it : Iter} (hr : s.rle = none) (hit : s.iter = some it) :
    blockTurn s = iterTurn it s := by
  simp [blockTurn, hr, hit]

/-! ## Addresses -/

/-- A sum of addresses wraps at 32 bits (20_memory.md R50). -/
theorem Word.add_ofNat (a : Word) (n : Nat) : a + BitVec.ofNat 32 n = BitVec.ofNat 32 (a.toNat + n) := by
  rw [BitVec.ofNat_add, BitVec.ofNat_toNat, BitVec.setWidth_eq]

theorem Word.add_one (a : Word) : a + 1 = BitVec.ofNat 32 (a.toNat + 1) := Word.add_ofNat a 1

theorem Iter.monoAddr_eq (it : Iter) :
    it.monoAddr = BitVec.ofNat 32 (it.base.toNat + it.j * it.stride + it.i / 8) := by
  rw [Iter.monoAddr, Word.add_ofNat, Nat.add_assoc]

theorem Iter.indexedAddr_eq (it : Iter) (fh fv : Bool) :
    it.indexedAddr fh fv = BitVec.ofNat 32 (it.base.toNat +
      (if fv then it.tileH - 1 - it.j else it.j) * it.stride + if fh then it.tileW - 1 - it.i else it.i) := by
  rw [Iter.indexedAddr, Word.add_ofNat, Nat.add_assoc]
  rfl

/-! ## One pixel -/

/-- The flag a read of the byte at `a` raises: ERR_SRC_RANGE at or above `SRC_SIZE` (20_memory.md R52). -/
def State.rangeFlag (s : State) (a : Word) : Word := if s.params.srcSize ≤ a.toNat then 0x8000#32 else 0

theorem State.noteRange_eq (s : State) (a : Word) : s.noteRange a = s.raiseLate (s.rangeFlag a) := by
  rw [State.noteRange_eq_raiseLate, State.rangeFlag]
  congr 1
  by_cases hin : a.toNat < s.params.srcSize
  · simp [State.inSource, hin]
  · simp [State.inSource, hin, Flag.mask, Flag.bit]

theorem firstUnwritten_singleton (r : RegId) (b : Bool) : firstUnwritten [(r, b)] = if b then none else some r := by
  cases b <;> rfl

theorem State.emitPixel_eq (s : State) (k : BitVec 4) :
    s.emitPixel k = { s with
      pending := s.pending ++ pixelEvents (s.palEntry k).value
      modelFault := s.modelFault.or (if (s.palEntry k).written then none else some (.pal k)) } := by
  rw [State.emitPixel, State.use, firstUnwritten_singleton]
  rfl

/-- The state after a pixel decoder's action at the iterator's position: the late flags `x` raised, the pixel of palette index
`k` emitted, the iterator moved on. -/
def State.afterPixel (s : State) (it : Iter) (k : BitVec 4) (x : Word) : State :=
  { s with
    raised := s.raised ||| x
    pending := s.pending ++ pixelEvents (s.palEntry k).value
    modelFault := s.modelFault.or (if (s.palEntry k).written then none else some (.pal k))
    iter := some it.advance }

theorem Iter.finished_of_left {it : Iter} (hleft : it.j < it.visH) : it.finished = false := by
  simp [Iter.finished, hleft]

theorem monoMove_of_left {it : Iter} (hleft : it.j < it.visH) (s : State) :
    monoMove it s =
      s.afterPixel it (monoIndex (s.readSource it.monoAddr it.key) it.i) (s.rangeFlag it.monoAddr) := by
  rw [monoMove, it.finished_of_left hleft, State.noteRange_eq, State.emitPixel_eq]
  rfl

theorem indexedMove_of_left {it : Iter} (hleft : it.j < it.visH) (fh fv : Bool) (s : State) :
    indexedMove fh fv it s =
      s.afterPixel it (indexedIndex (s.readSource (it.indexedAddr fh fv) it.key))
        (s.rangeFlag (it.indexedAddr fh fv) |||
          if 15 < (s.readSource (it.indexedAddr fh fv) it.key).toNat then 0x2000#32 else 0) := by
  simp only [indexedMove, it.finished_of_left hleft, State.noteRange_eq, State.raiseIf_eq_raiseLate,
    State.raiseLate_raiseLate, State.emitPixel_eq, decide_eq_true_eq]
  rfl

/-- The bit of column `i` counted from the byte's most significant one (42_decoders.md R145). -/
theorem monoIndex_eq (b : Byte) (i : Nat) : monoIndex b i = if b.toNat / 2 ^ (7 - i % 8) % 2 = 1 then 0 else 1 := by
  rw [monoIndex, ← BitVec.testBit_toNat, Nat.testBit_eq_decide_div_mod_eq]
  simp only [decide_eq_true_eq]

/-- The low four bits of a byte as its remainder (42_decoders.md R149). -/
theorem indexedIndex_eq (b : Byte) : indexedIndex b = BitVec.ofNat 4 (b.toNat % 16) := by
  exact BitVec.eq_of_toNat_eq (by simp [indexedIndex])

/-! ## The table lookup -/

/-- `BE16` puts the byte at the lower address first (20_memory.md R54). -/
theorem State.readBE16_toNat (s : State) (a : Word) (key : Nat) :
    (s.readBE16 a key).toNat =
      256 * (s.readSource a key).toNat + (s.readSource (BitVec.ofNat 32 (a.toNat + 1)) (key + 1)).toNat := by
  rw [State.readBE16, BitVec.toNat_append, ← Nat.shiftLeft_add_eq_or_of_lt (BitVec.isLt _), Nat.shiftLeft_eq,
    Word.add_one]
  omega

/-- Whether a byte of the 16-bit element at `a` does not exist (20_memory.md R50). -/
theorem State.outside_iff (s : State) (a : Word) :
    (!s.inSource a || !s.inSource (a + 1)) =
      decide (s.params.srcSize ≤ a.toNat ∨ s.params.srcSize ≤ (BitVec.ofNat 32 (a.toNat + 1)).toNat) := by
  rw [Word.add_one]
  simp only [State.inSource, ← decide_not, not_lt, Bool.decide_or]

theorem State.tableElement_eq (s : State) : s.tableElement =
    BitVec.ofNat 32 (s.operands.tableBase.value.toNat + 2 * (s.operands.sectionId.value.toNat + 1)) :=
  Word.add_ofNat ..

/-- The token pointer the lookup sets, from the offset's number (42_decoders.md R150). -/
theorem State.add_tokenOffset (s : State) (base : Word) (keys : Nat) :
    base + (s.tokenOffset keys).setWidth 32 =
      BitVec.ofNat 32 (base.toNat + if s.tileListed keys then (s.readBE16 s.tableElement (keys + 2)).toNat else 0) := by
  rw [← BitVec.ofNat_toNat, Word.add_ofNat, State.tokenOffset]
  cases s.tileListed keys <;> rfl

/-- The flags of a lookup whose elements 0 and `S + 1` lie outside source memory or not, the second read where the identifier
is listed. -/
theorem lookupFlags (outside listed outside' : Bool) :
    (if outside then Flag.errSrcRange.mask else 0) |||
        (if listed then if outside' then Flag.errSrcRange.mask else 0 else Flag.errTileId.mask) =
      (if outside || (listed && outside') then 0x8000#32 else 0) ||| if listed then 0 else 0x4000#32 := by
  cases outside <;> cases listed <;> cases outside' <;> rfl

/-- A byte the host has not raced with has held one value since accept (20_memory.md R62). -/
theorem State.readSource_of_not_raced {s : State} {a : Word} (key : Nat) (hin : a.toNat < s.params.srcSize)
    (hcalm : ∀ c ∈ s.raced, c.1 ≠ a.toNat) : s.readSource a key = Memory.read s.mem a.toNat := by
  have hheld : s.heldBytes a.toNat = [Memory.read s.mem a.toNat] := by simpa [State.heldBytes] using hcalm
  simp [State.readSource, State.inSource, hin, hheld]

/-! ## After the last pixel -/

theorem iterTurn_of_finished {s : State} {it : Iter} {i : Instr} (hcurrent : s.current = some i) (hblit : isBlit i = true)
    (hrle : isBlitRle i = false) (hdone : it.visH ≤ it.j) : iterTurn it s = .done s.finishDecode := by
  have hfinished : it.finished = true := decide_eq_true hdone
  rw [iterTurn, hcurrent]
  cases i with
  | blit1 fh fv => simp [monoMove, hfinished]
  | blit4 fh fv => simp [indexedMove, hfinished]
  | blitRle fh fv => simp [isBlitRle] at hrle
  | nop | setrot _ | window | pixel | close | run _ _ => simp [isBlit] at hblit

theorem rleTurn_of_finished {s : State} {r : Rle} (hdone : r.budget ≤ r.p) : rleTurn r s = .done s.finishDecode := by
  simp [rleTurn, Rle.finished, hdone]

end Sys2Proof.Machine

namespace Sys2Proof

open Sys2Proof.Machine

/-- Settles O40: the iterator stands at a pixel, whose byte and bit R144 and R145 name. -/
theorem blit1DecodesMsbFirst : Obligations.Blit1DecodesMsbFirst := by
  intro s rest fh fv it hs hcurrent hrle hiter hleft
  dsimp only
  rw [← Iter.monoAddr_eq, ← monoIndex_eq]
  refine ⟨State.afterPixel { s with schedule := rest } it (monoIndex (s.readSource it.monoAddr it.key) it.i)
    (s.rangeFlag it.monoAddr), ?_, rfl, rfl, rfl, rfl, rfl⟩
  rw [step_of_block hs, blockTurn_of_iter (s := { s with schedule := rest }) hrle hiter, iterTurn, hcurrent]
  exact congrArg _ (monoMove_of_left hleft _)

/-- Settles O41: the iterator stands at a pixel, whose source pixel the flips select in the stored tile. -/
theorem blit4DecodesTheFlippedTile : Obligations.Blit4DecodesTheFlippedTile := by
  intro s rest fh fv it hs hcurrent hrle hiter hleft
  dsimp only
  rw [← Iter.indexedAddr_eq, ← indexedIndex_eq, BitVec.or_assoc]
  refine ⟨State.afterPixel { s with schedule := rest } it (indexedIndex (s.readSource (it.indexedAddr fh fv) it.key)) _,
    ?_, rfl, rfl, rfl, rfl, rfl⟩
  rw [step_of_block hs, blockTurn_of_iter (s := { s with schedule := rest }) hrle hiter, iterTurn, hcurrent]
  exact congrArg _ (indexedMove_of_left hleft fh fv _)

/-- Settles O42: the flags by the elements the lookup reads, the token pointer by whether the identifier is listed. -/
theorem tableLookupFindsTheTokens : Obligations.TableLookupFindsTheTokens := by
  refine ⟨fun s rest fh fv it hs hcurrent hrle hiter => ?_, fun s a key => State.readSource_of_not_raced key⟩
  dsimp only
  simp only [← State.readBE16_toNat, ← State.outside_iff, ← State.tableElement_eq]
  refine ⟨tableMove it { s with schedule := rest }, ?_, ?_, ?_, _, rfl, State.add_tokenOffset _ _ _, rfl, rfl, rfl, rfl, rfl,
    rfl⟩
  · rw [step_of_block hs, blockTurn_of_iter (s := { s with schedule := rest }) hrle hiter, iterTurn, hcurrent]
    rfl
  · rw [tableMove, State.noteLookup_eq]
  · rw [tableMove, State.noteLookup_eq, BitVec.or_assoc, BitVec.or_assoc, lookupFlags]
    rfl

/-- Settles O44: a decoder with no pixel left, of tokens or of pixels, ends its command. -/
theorem finishedDecoderEmitsEnd : Obligations.FinishedDecoderEmitsEnd := by
  refine ⟨fun s rest r hs hrle hdone => ?_, fun s rest it i hs hrle hiter hcurrent hblit hpixels hdone => ?_⟩
  · rw [step_of_block hs, blockTurn_of_rle (s := { s with schedule := rest }) hrle, rleTurn_of_finished hdone]
    rfl
  · rw [step_of_block hs, blockTurn_of_iter (s := { s with schedule := rest }) hrle hiter,
      iterTurn_of_finished (s := { s with schedule := rest }) hcurrent hblit hpixels hdone, hrle]
    rfl

end Sys2Proof
end

section
/-! # Runs of RLE tokens

RUN decodes the pixels of its run in order: those inside the clamped tile are emitted and all are counted (42_decoders.md R152,
R154, R157). Tokens whose runs fill the stored tile of an unclamped BLITRLE are read one a step, and their runs are the picture
(R160). -/

namespace Sys2Proof.Machine

open Sys2Proof

/-! ## The pixels of a run -/

/-- The colors the next `n` pixels of the current run emit: one for each pixel inside the clamped tile (42_decoders.md R157). -/
def State.runColors (s : State) (r : Rle) (n : Nat) : List Half :=
  ((List.range' r.p n).filter (inClamp r.tileW r.visW r.visH)).map fun _ => s.color r.runIdx

/-- Whether one of the next `n` pixels lies inside the clamped tile. -/
def Rle.showsAny (r : Rle) (n : Nat) : Bool := (List.range' r.p n).any (inClamp r.tileW r.visW r.visH)

/-- The decoder's counters after `n` pixels of the current run. -/
def Rle.skip (r : Rle) (n : Nat) : Rle := { r with p := r.p + n, runLeft := r.runLeft - n }

theorem Rle.skip_skip (r : Rle) (m n : Nat) : (r.skip m).skip n = r.skip (m + n) := by
  simp [Rle.skip, Nat.add_assoc, Nat.sub_sub]

theorem State.runColors_succ (s : State) (r : Rle) (n : Nat) :
    s.runColors r (n + 1) = (if r.visible then [s.color r.runIdx] else []) ++ s.runColors (r.skip 1) n := by
  have hvisible : r.visible = inClamp r.tileW r.visW r.visH r.p := rfl
  rw [State.runColors, List.range'_succ, List.filter_cons, hvisible]
  split <;> rfl

theorem Rle.showsAny_succ (r : Rle) (n : Nat) : r.showsAny (n + 1) = (r.visible || (r.skip 1).showsAny n) := rfl

/-- The record of a palette entry read or not: only an unwritten entry that is read is a model fault (log 3). -/
def State.entryFault (s : State) (k : BitVec 4) (read : Bool) : Option RegId :=
  if read && !(s.palEntry k).written then some (.pal k) else none

theorem State.entryFault_or (s : State) (k : BitVec 4) (a b : Bool) :
    (s.entryFault k a).or (s.entryFault k b) = s.entryFault k (a || b) := by
  unfold State.entryFault
  cases (s.palEntry k).written <;> cases a <;> cases b <;> rfl

theorem State.or_entryFault (s : State) (k : BitVec 4) (read : Bool) :
    s.modelFault.or (s.entryFault k read) =
      if read && !(s.palEntry k).written then s.modelFault.or (some (.pal k)) else s.modelFault := by
  rw [State.entryFault, apply_ite s.modelFault.or, Option.or_none]

/-- A pixel of a run changes the pending events, the record of unwritten reads and the counters, and nothing else. -/
theorem runPixel_eq_colors {s : State} {r : Rle} (h : s.rle = some r) :
    runPixel s = { s with
      pending := s.pending ++ (if r.visible then [s.color r.runIdx] else []).flatMap pixelEvents
      modelFault := s.modelFault.or (s.entryFault r.runIdx r.visible)
      rle := some (r.skip 1) } := by
  rw [runPixel_of_rle h]
  cases r.visible
  · simp [State.entryFault, Rle.skip]
  · rw [if_pos rfl, State.emitPixel_eq]
    cases hw : (s.palEntry r.runIdx).written <;> simp [State.entryFault, hw, State.color, Rle.skip]

/-- `n` pixels of a run change the same fields, and emit the run's colors in order. -/
theorem runPixels_eq_colors (n : Nat) {s : State} {r : Rle} (h : s.rle = some r) :
    runPixels n s = { s with
      pending := s.pending ++ (s.runColors r n).flatMap pixelEvents
      modelFault := s.modelFault.or (s.entryFault r.runIdx (r.showsAny n))
      rle := some (r.skip n) } := by
  induction n generalizing s r with
  | zero => simp [runPixels, State.runColors, Rle.showsAny, State.entryFault, Rle.skip, ← h]
  | succ n ih =>
    have hpixel := runPixel_eq_colors h
    rw [runPixels, ih (r := r.skip 1) (by rw [hpixel]), hpixel, State.runColors_succ, Rle.showsAny_succ,
      ← State.entryFault_or, List.flatMap_append, ← List.append_assoc, ← Option.or_assoc, Nat.add_comm n 1,
      ← Rle.skip_skip]
    rfl

/-- RUN with an RLE decoder in progress (42_decoders.md R152). -/
theorem exec_run {s : State} {r : Rle} (h : s.rle = some r) (idx len : BitVec 4) :
    exec (.run idx len) s = .next { s with
      pending := s.pending ++ (s.runColors { r with runIdx := idx } (r.runLength len)).flatMap pixelEvents
      modelFault := s.modelFault.or (s.entryFault idx (r.showsAny (r.runLength len)))
      rle := some { r with p := r.p + r.runLength len, runIdx := idx, runLeft := 0 } } := by
  rw [exec, execRun_of_rle h, runPixels_eq_colors _ rfl]
  simp only [Rle.skip, Nat.sub_self]
  rfl

/-- The events of a run, pixel by pixel counted from its first. -/
theorem State.flatMap_runColors (s : State) (r : Rle) (n : Nat) :
    (s.runColors r n).flatMap pixelEvents =
      ((List.range n).filter fun q => inClamp r.tileW r.visW r.visH (r.p + q)).flatMap
        fun _ => pixelEvents (s.color r.runIdx) := by
  rw [State.runColors, List.range'_eq_map_range, List.filter_map, List.map_map, List.flatMap_map]
  rfl

theorem Rle.showsAny_eq (r : Rle) (n : Nat) :
    r.showsAny n = (List.range n).any fun q => inClamp r.tileW r.visW r.visH (r.p + q) := by
  rw [Rle.showsAny, List.range'_eq_map_range, List.any_map]
  rfl

/-! ## Tokens in source memory -/

/-- The tokens `tks`, as palette index and run length minus one, lie in source memory of `size` bytes from `tp` on (R153). -/
def TokensAt (size : Nat) (m : List Host.Cell) : Word → List (BitVec 4 × BitVec 4) → Prop
  | _, [] => True
  | tp, tk :: tks => tp.toNat < size ∧ Memory.read m tp.toNat = tk.1 ++ tk.2 ∧ TokensAt size m (tp + 1) tks

/-- A list of tokens stored byte after byte without passing the end of source memory. -/
theorem tokensAt_of_read {size : Nat} {m : List Host.Cell} {tp : Word} {tks : List (BitVec 4 × BitVec 4)}
    (hsize : size ≤ 2 ^ 32) (hfit : tp.toNat + tks.length ≤ size)
    (hread : ∀ n (hn : n < tks.length), Memory.read m (tp.toNat + n) = tks[n].1 ++ tks[n].2) : TokensAt size m tp tks := by
  induction tks generalizing tp with
  | nil => trivial
  | cons tk tks ih =>
    rw [List.length_cons] at hfit
    refine ⟨by omega, hread 0 (by simp), ?_⟩
    rcases tks with _ | ⟨tk', tks⟩
    · trivial
    · have hnext : (tp + 1).toNat = tp.toNat + 1 := by
        rw [List.length_cons] at hfit
        rw [BitVec.toNat_add]
        exact Nat.mod_eq_of_lt (by change tp.toNat + 1 < _; omega)
      refine ih (by omega) fun n hn => ?_
      have hbyte := hread (n + 1) (by simpa using hn)
      rwa [hnext, Nat.add_assoc, Nat.add_comm 1 n]

/-- The number of pixels the runs of `tks` have. -/
def runSum (tks : List (BitVec 4 × BitVec 4)) : Nat := (tks.map fun tk => tk.2.toNat + 1).sum

/-- An unclamped BLITRLE, with nothing scheduled, stands before the tokens `tks`, whose runs decode the rest of its tile. -/
structure AwaitsTokens (s : State) (r : Rle) (tks : List (BitVec 4 × BitVec 4)) : Prop where
  decoder : s.rle = some r
  unscheduled : s.schedule = []
  calm : s.raced = []
  unclampedW : r.visW = r.tileW
  unclampedH : r.visH = r.tileH
  stored : TokensAt s.params.srcSize s.mem r.tp tks
  exact : r.p + runSum tks = r.budget

/-- Every pixel within the budget of an unclamped tile is visible. -/
theorem State.runColors_of_unclamped {r : Rle} {n : Nat} (hw : r.visW = r.tileW) (hh : r.visH = r.tileH)
    (hn : r.p + n ≤ r.budget) (s : State) : s.runColors r n = List.replicate n (s.color r.runIdx) := by
  have hall : ∀ q ∈ List.range' r.p n, inClamp r.tileW r.visW r.visH q = true := by
    intro q hq
    have hq : q < r.tileW * r.tileH := by
      rw [List.mem_range'_1] at hq
      exact lt_of_lt_of_le hq.2 hn
    have hpos : 0 < r.tileW := Nat.pos_of_ne_zero fun h0 => by simp [h0] at hq
    simp [inClamp, hw, hh, Nat.mod_lt _ hpos, Nat.div_lt_of_lt_mul hq]
  rw [State.runColors, List.filter_eq_self.mpr hall, List.map_const', List.length_range']

theorem decodeToken_append (idx len : BitVec 4) : decodeToken (idx ++ len) = .run idx len :=
  Except.ok.inj (decode_encode (.run idx len))

/-- The decoder's counters once it has read the token `tk` and decoded its whole run. -/
def Rle.afterToken (r : Rle) (tk : BitVec 4 × BitVec 4) : Rle :=
  { r with tp := r.tp + 1, p := r.p + (tk.2.toNat + 1), runIdx := tk.1, runLeft := 0 }

/-- One step reads the first of the tokens and emits its color as often as its run says. -/
theorem step_of_awaitsTokens {s : State} {r : Rle} {tk : BitVec 4 × BitVec 4} {tks : List (BitVec 4 × BitVec 4)}
    (h : AwaitsTokens s r (tk :: tks)) :
    ∃ t, step s = .next t ∧ t.pal = s.pal ∧
      t.pending = s.pending ++ (List.replicate (tk.2.toNat + 1) (s.palEntry tk.1).value).flatMap pixelEvents ∧
      AwaitsTokens t (r.afterToken tk) tks := by
  obtain ⟨hin, hread, hrest⟩ := h.stored
  have hsum : r.p + (tk.2.toNat + 1 + runSum tks) = r.budget := h.exact
  have hleft : r.p < r.budget := by omega
  have hlength : r.runLength tk.2 = tk.2.toNat + 1 := Nat.min_eq_left (by omega)
  have hbyte : s.tokenByte r = tk.1 ++ tk.2 :=
    (State.readSource_of_calm _ (decide_eq_true hin) h.calm).trans hread
  have hcolors : (s.fetchToken r).runColors { r with tp := r.tp + 1, runIdx := tk.1 } (tk.2.toNat + 1) =
      List.replicate (tk.2.toNat + 1) (s.palEntry tk.1).value :=
    State.runColors_of_unclamped (r := { r with tp := r.tp + 1, runIdx := tk.1 }) h.unclampedW h.unclampedH
      (show r.p + (tk.2.toNat + 1) ≤ r.budget by omega) _
  have hdecoding : s.decoding = true := by simp [State.decoding, h.decoder]
  rw [step_of_empty_schedule h.unscheduled, if_pos hdecoding, blockTurn_of_token h.decoder hleft, hbyte,
    decodeToken_append, finishTurn, exec_run (State.fetchToken_rle s r)]
  refine ⟨_, rfl, rfl, ?_, ?_⟩
  · rw [← hcolors, ← hlength]
    rfl
  · exact ⟨by rw [Rle.afterToken, ← hlength]; rfl, h.unscheduled, h.calm, h.unclampedW, h.unclampedH, hrest,
      (Nat.add_assoc ..).trans hsum⟩

theorem runSteps_succ {s t : State} (h : step s = .next t) (k : Nat) : runSteps (k + 1) s = runSteps k t := by
  have hcore : Sys2Proof.core.step s = .next t := h
  simp only [runSteps, Host.Core.run, hcore]
  rfl

/-- As many steps as there are tokens decode the rest of the tile (42_decoders.md R160). -/
theorem runSteps_of_awaitsTokens {s : State} {r : Rle} {tks : List (BitVec 4 × BitVec 4)} (h : AwaitsTokens s r tks) :
    ∃ t, runSteps tks.length s = .next t ∧
      t.pending = s.pending ++ tks.flatMap (fun tk =>
        (List.replicate (tk.2.toNat + 1) (s.palEntry tk.1).value).flatMap pixelEvents) ∧
      ∃ r', t.rle = some r' ∧ r'.p = r.budget ∧ r'.tp = r.tp + BitVec.ofNat 32 tks.length := by
  induction tks generalizing s r with
  | nil => exact ⟨s, rfl, by simp, r, h.decoder, h.exact, by simp⟩
  | cons tk tks ih =>
    obtain ⟨u, hstep, hpal, hpending, hawaits⟩ := step_of_awaitsTokens h
    obtain ⟨t, hrun, htail, r', hr', hp, htp⟩ := ih hawaits
    have hentry : ∀ k, u.palEntry k = s.palEntry k := fun k => by rw [State.palEntry, hpal]; rfl
    simp only [hentry] at htail
    refine ⟨t, by rw [List.length_cons, runSteps_succ hstep, hrun], ?_, r', hr', hp, ?_⟩
    · rw [htail, hpending, List.flatMap_cons, List.append_assoc]
    · rw [htp, List.length_cons, Nat.add_comm tks.length, BitVec.ofNat_add, ← BitVec.add_assoc]
      rfl

end Sys2Proof.Machine

namespace Sys2Proof

open Sys2Proof.Machine

/-- Settles O43, pixel by pixel of the run, each emitted where it is visible and counted in any case. -/
theorem runEmitsItsVisiblePixels : Obligations.RunEmitsItsVisiblePixels := by
  refine ⟨fun s idx len hnone => ?_, fun s r idx len hr => ?_⟩
  · rw [exec, execRun, hnone]
  · dsimp only
    refine ⟨_, exec_run hr idx len, rfl, rfl, ?_, ?_⟩
    · simp only [State.flatMap_runColors, inClamp, ← Bool.decide_and]
      rfl
    · simp only [State.or_entryFault, Rle.showsAny_eq, inClamp, ← Bool.decide_and]
      rfl

/-- Settles O53: the tokens lie in source memory and their runs fill the tile, so each step decodes one of them whole. -/
theorem rleRoundTripReproducesTheTile : Obligations.RleRoundTripReproducesTheTile := by
  intro s r tokens hr hs hcalm hp hw hh hsize hfit hread hsum
  exact runSteps_of_awaitsTokens
    { decoder := hr, unscheduled := hs, calm := hcalm, unclampedW := hw, unclampedH := hh
      stored := tokensAt_of_read hsize hfit hread
      exact := by rw [hp, Nat.zero_add]; exact hsum }

end Sys2Proof
end

section
/-! # The decoders' lists

`DecodeRLE` as a list of colors fills the clamped tile whatever its tokens are (42_decoders.md R157, R159), and the stride form of
the iterator walks the addresses of the coordinate form (R143). -/

namespace Sys2Proof.Machine

open Sys2Proof

/-! ## The length of `DecodeRLE` -/

theorem State.tokenIndices_of_finished (s : State) {r : Rle} (hdone : r.budget ≤ r.p) (fuel : Nat) :
    s.tokenIndices fuel r = [] := by
  cases fuel with
  | zero => rfl
  | succ fuel => rw [State.tokenIndices, if_pos hdone]

/-- Where the budget is not met, the next token gives its run, cut at the budget, and the rest follows
(42_decoders.md R154). -/
theorem State.tokenIndices_succ (s : State) {r : Rle} (hleft : r.p < r.budget) (fuel : Nat) :
    let k := r.runLength ((s.tokenByte r).extractLsb' 0 4)
    s.tokenIndices (fuel + 1) r = List.replicate k ((s.tokenByte r).extractLsb' 4 4) ++
      s.tokenIndices fuel { r with tp := r.tp + 1, p := r.p + k } := by
  rw [State.tokenIndices, if_neg (not_le.mpr hleft)]
  rfl

theorem Rle.runLength_pos {r : Rle} (hleft : r.p < r.budget) (len : BitVec 4) : 0 < r.runLength len :=
  lt_min len.toNat.succ_pos (Nat.sub_pos_of_lt hleft)

theorem Rle.runLength_le (r : Rle) (len : BitVec 4) : r.runLength len ≤ r.budget - r.p := Nat.min_le_right ..

/-- A token decodes at least one pixel, so as many tokens as there are pixels left decode them all (42_decoders.md R155). -/
theorem State.tokenIndices_length (s : State) {fuel : Nat} {r : Rle} (hfuel : r.budget - r.p ≤ fuel) :
    (s.tokenIndices fuel r).length = r.budget - r.p := by
  induction fuel generalizing r with
  | zero => exact (Nat.le_zero.mp hfuel).symm
  | succ fuel ih =>
    rcases Nat.lt_or_ge r.p r.budget with hleft | hdone
    · have hpos := r.runLength_pos hleft ((s.tokenByte r).extractLsb' 0 4)
      have hle := r.runLength_le ((s.tokenByte r).extractLsb' 0 4)
      rw [s.tokenIndices_succ hleft, List.length_append, List.length_replicate, ih]
      · change _ + (r.budget - (r.p + _)) = _
        omega
      · change r.budget - (r.p + _) ≤ fuel
        omega
    · rw [s.tokenIndices_of_finished hdone, Nat.sub_eq_zero_of_le hdone]
      rfl

/-- Pixel `c` of row `h` lies in the clamped part exactly if its row and its column do. -/
theorem inClamp_row {w c : Nat} (hc : c < w) (visW visH h : Nat) :
    inClamp w visW visH (w * h + c) = true ↔ h < visH ∧ c < visW := by
  rw [inClamp, Nat.mul_add_mod, Nat.mod_eq_of_lt hc, Nat.mul_add_div (by omega), Nat.div_eq_of_lt hc]
  simp [and_comm]

/-- Row `h` of the stored tile has `visW` pixels in the clamped part, or none below it. -/
theorem count_inClamp_row {w visW : Nat} (hw : visW ≤ w) (visH h : Nat) :
    Nat.count (fun c => inClamp w visW visH (w * h + c) = true) w = if h < visH then visW else 0 := by
  split
  · next hrow =>
    obtain ⟨d, rfl⟩ := Nat.exists_eq_add_of_le hw
    rw [Nat.count_add, Nat.count_of_forall fun c hc => (inClamp_row (by omega) ..).mpr ⟨hrow, hc⟩,
      Nat.count_of_forall_not fun c hc hin => absurd ((inClamp_row (by omega) ..).mp hin).2 (by omega), Nat.add_zero]
  · next hrow =>
    exact Nat.count_of_forall_not fun c hc => by simp [inClamp_row hc, hrow]

/-- The first `h` rows have `visW` pixels in the clamped part for each row of it. -/
theorem count_inClamp {w visW : Nat} (hw : visW ≤ w) (visH h : Nat) :
    Nat.count (fun n => inClamp w visW visH n = true) (w * h) = visW * min h visH := by
  induction h with
  | zero => simp
  | succ h ih =>
    rw [Nat.mul_succ, Nat.count_add, ih, count_inClamp_row hw]
    split
    · next hrow => rw [← Nat.mul_succ, Nat.min_eq_left hrow.le, Nat.min_eq_left hrow]
    · next hrow => rw [Nat.min_eq_right (by omega), Nat.min_eq_right (by omega), Nat.add_zero]

/-- The colors of `DecodeRLE` are as many as the clamped part has pixels among those decoded. -/
theorem State.rleColors_length (s : State) {r : Rle} (hp : r.p = 0) :
    (s.rleColors r).length = Nat.count (fun n => inClamp r.tileW r.visW r.visH n = true) r.budget := by
  have hlength : (s.tokenIndices r.budget r).length = r.budget := by rw [s.tokenIndices_length (by omega), hp, Nat.sub_zero]
  have hmap := List.countP_map (p := inClamp r.tileW r.visW r.visH) (f := Prod.snd) (l := (s.tokenIndices r.budget r).zipIdx)
  rw [List.zipIdx_map_snd, hlength, ← List.range_eq_range'] at hmap
  rw [State.rleColors, List.length_map, ← List.countP_eq_length_filter, Nat.count]
  simpa [Function.comp_def] using hmap.symm

/-! ## The stride form -/

theorem Word.ofNat_succ (n : Nat) : BitVec.ofNat 32 (n + 1) = BitVec.ofNat 32 n + 1 := BitVec.ofNat_add n 1

/-- The stride from a row of source pixels to the next (42_decoders.md R143). -/
def rowStride (iw : Nat) (fv : Bool) : Word := if fv then -BitVec.ofNat 32 iw else BitVec.ofNat 32 iw

theorem itYAdder_eq (iw visW : Nat) (fh fv : Bool) :
    itYAdder iw visW fh fv = rowStride iw fv - BitVec.ofNat 32 visW * itXAdder fh := rfl

/-- After `n` pixels from column `i` on, the walk has moved by the columns and the rows it has passed, modulo 2^32. -/
theorem strideWalk_eq (iw : Nat) {visW : Nat} (fh fv : Bool) (n : Nat) {i : Nat} (hi : i < visW) (p : Word) :
    strideWalk iw visW fh fv n i p = p + (BitVec.ofNat 32 ((i + n) % visW) - BitVec.ofNat 32 i) * itXAdder fh +
      BitVec.ofNat 32 ((i + n) / visW) * rowStride iw fv := by
  induction n generalizing i p with
  | zero =>
    rw [strideWalk, Nat.add_zero, Nat.mod_eq_of_lt hi, Nat.div_eq_of_lt hi]
    simp
  | succ n ih =>
    rw [strideWalk]
    split
    · next hcol =>
      rw [ih hcol, Nat.add_right_comm, Nat.add_assoc i, Word.ofNat_succ]
      ring
    · next hcol =>
      obtain rfl : visW = i + 1 := by omega
      have hturn : i + (n + 1) = n + (i + 1) := by omega
      rw [ih (by omega), Nat.zero_add, hturn, Nat.add_mod_right, Nat.add_div_right _ (by omega), itYAdder_eq,
        BitVec.sub_zero, Word.ofNat_succ, Word.ofNat_succ]
      ring

/-- The start and the strides together give the source column, counted from the right where the flip says so. -/
theorem sourceColumn_stride {w c : Nat} (hc : c < w) (fh : Bool) :
    (if fh then BitVec.ofNat 32 (w - 1) else 0) + BitVec.ofNat 32 c * itXAdder fh =
      BitVec.ofNat 32 (if fh then w - 1 - c else c) := by
  cases fh
  · simp [itXAdder]
  · have hw : BitVec.ofNat 32 (w - 1) = BitVec.ofNat 32 (w - 1 - c) + BitVec.ofNat 32 c := by
      rw [← BitVec.ofNat_add]
      congr 1
      omega
    simp only [itXAdder, if_true, hw]
    ring

/-- So it is for the address of the source row. -/
theorem sourceRow_stride {h r : Nat} (hr : r < h) (iw : Nat) (fv : Bool) :
    (if fv then BitVec.ofNat 32 (h - 1) * BitVec.ofNat 32 iw else 0) + BitVec.ofNat 32 r * rowStride iw fv =
      BitVec.ofNat 32 ((if fv then h - 1 - r else r) * iw) := by
  cases fv
  · simp [rowStride, BitVec.ofNat_mul]
  · have hh : BitVec.ofNat 32 (h - 1) = BitVec.ofNat 32 (h - 1 - r) + BitVec.ofNat 32 r := by
      rw [← BitVec.ofNat_add]
      congr 1
      omega
    simp only [rowStride, if_true, hh, BitVec.ofNat_mul]
    ring

end Sys2Proof.Machine

namespace Sys2Proof

open Sys2Proof.Machine

/-- Settles O52, row by row of the stored tile. -/
theorem rleColorsFillTheWindow : Obligations.RleColorsFillTheWindow := by
  rintro s r ⟨⟨-, hw, -, hh, -, -⟩, -, -⟩ hp
  rw [s.rleColors_length hp, Rle.budget, count_inClamp hw, Nat.min_eq_right hh]

/-- Settles O54, by the columns and rows a walk of `n` pixels has passed. -/
theorem strideFormFollowsTheCoordinates : Obligations.StrideFormFollowsTheCoordinates := by
  intro tb w h iw visW visH fh fv n hpos hw hh hn
  have hcol : n % visW < w := (Nat.mod_lt n hpos).trans_le hw
  have hrow : n / visW < h := (Nat.div_lt_of_lt_mul hn).trans_le hh
  dsimp only [sourceCoord]
  rw [strideWalk_eq iw fh fv n hpos, Nat.zero_add, BitVec.sub_zero, BitVec.ofNat_add, ← sourceRow_stride hrow,
    ← sourceColumn_stride hcol, strideStart]
  ring

end Sys2Proof
end

section
/-! # Blit commands

A blit is refused while a window is open (43_blit.md R179), a BLIT4 also without an image width (R175), and dropped where its clip
leaves nothing (R171). Every other blit begins with the clamped rectangle's header (R173). -/

namespace Sys2Proof.Machine

open Sys2Proof

/-! ## The clip -/

/-- The clip drops a tile whose origin is off the panel, or an empty one, and no other (R171). -/
theorem State.clipped_eq_none_iff (s : State) :
    s.clipped = none ↔ s.orient.panelW ≤ s.operands.dstX.value ∨ s.orient.panelH ≤ s.operands.dstY.value ∨
      s.operands.tileW.value = 0 ∨ s.operands.tileH.value = 0 := by
  rw [State.clipped, clip_eq_none_iff, ← or_assoc, or_comm, or_assoc]
  simp only [BitVec.le_def, ← BitVec.toNat_inj]
  rfl

/-- The clip of a tile that is not empty, its origin on the panel (R170). -/
theorem State.clipped_of_onPanel {s : State} (hx : s.operands.dstX.value < s.orient.panelW)
    (hy : s.operands.dstY.value < s.orient.panelH) (hw : s.operands.tileW.value ≠ 0)
    (hh : s.operands.tileH.value ≠ 0) :
    s.clipped = some (min s.operands.tileW.value.toNat (s.orient.panelW.toNat - s.operands.dstX.value.toNat),
      min s.operands.tileH.value.toNat (s.orient.panelH.toNat - s.operands.dstY.value.toNat)) := by
  have hkept : s.clipped ≠ none := by
    rw [ne_eq, State.clipped_eq_none_iff]
    simp only [BitVec.not_le.mpr hx, BitVec.not_le.mpr hy, hw, hh, or_self, not_false_eq_true]
  obtain ⟨⟨w, h⟩, hc⟩ := Option.ne_none_iff_exists'.mp hkept
  obtain ⟨rfl, rfl, -⟩ := clip_eq_some hc
  exact hc

/-! ## Refusals -/

theorem exec_blit_open {s : State} {i : Instr} (hi : isBlit i = true) (hopen : s.winOpen = true) :
    exec i s = .next (s.reject .errWinOpen) := by
  cases i with
  | blit1 | blit4 | blitRle => exact if_pos hopen
  | nop | setrot | window | pixel | close | run => simp [isBlit] at hi

section
variable {s : State} (hclosed : s.winOpen = false) (fh fv : Bool)
include hclosed

theorem exec_blit1_closed : exec (.blit1 fh fv) s =
    .next (blitEnvelope (.blit1 fh fv) [.srcBase] (ceil8 s.operands.tileW.value.toNat) s.operands.srcBase.value pixelKeys
      (s.setFlagIf (fh || fv) .infoFlipIgnored)) :=
  if_neg (by simp [hclosed])

theorem exec_blitRle_closed : exec (.blitRle fh fv) s =
    .next (blitEnvelope (.blitRle fh fv) [.sectionId, .tableBase, .srcBase] 0 s.operands.srcBase.value s.rleKeys
      (s.setFlagIf (fh || fv) .infoFlipIgnored)) :=
  if_neg (by simp [hclosed])

theorem exec_blit4_noWidth (hwidth : s.operands.imgW.value = 0) :
    exec (.blit4 fh fv) s = .next ((s.useOperands [.imgW]).reject .errParam) := by
  rw [exec, execBlit4, if_neg (by simp [hclosed]), if_pos hwidth]

theorem exec_blit4_closed (hwidth : s.operands.imgW.value ≠ 0) : exec (.blit4 fh fv) s =
    .next (blitEnvelope (.blit4 fh fv) [.sectionId, .srcBase] s.operands.imgW.value.toNat s.tileBase pixelKeys
      (s.useOperands [.imgW])) := by
  rw [exec, execBlit4, if_neg (by simp [hclosed]), if_neg hwidth]

end

/-! ## Flags and reads -/

theorem State.setFlagIf_eq (s : State) (c : Bool) (f : Flag) :
    s.setFlagIf c f = { s with status := s.status ||| if c then f.mask else 0 } := by
  cases c <;> simp [State.setFlagIf]

theorem firstUnwritten_append (rs rs' : List (RegId × Bool)) :
    firstUnwritten (rs ++ rs') = (firstUnwritten rs).or (firstUnwritten rs') := by
  rw [firstUnwritten, List.find?_append, Option.map_or]
  rfl

/-- Reads in a row are recorded as one read of all the registers in order (60_exceptions.md R213). -/
theorem State.useOperands_useOperands (s : State) (os os' : List Operand) :
    (s.useOperands os).useOperands os' = s.useOperands (os ++ os') := by
  simp only [State.useOperands_eq, State.faultAfter, List.map_append, firstUnwritten_append, Option.or_assoc]

/-! ## The start of a blit -/

/-- The state a blit begins in: the flips reported where they are ignored, the clamp to `w` by `h` reported, the window open and
BUSY, the header pending, the iterator at the first pixel, `keys` free values reserved, the operands `os` read (R172 to R176). -/
def State.begun (s : State) (i : Instr) (flips : Bool) (os : List Operand) (stride : Nat) (base : Word) (keys w h : Nat) :
    State :=
  { s with
    status := s.status ||| (if flips then 0x40000#32 else 0#32) |||
      (if w < s.operands.tileW.value.toNat ∨ h < s.operands.tileH.value.toNat then 0x20000#32 else 0) ||| 0x3#32
    current := some i
    pending := s.pending ++ s.blitHeader w h
    iter := some (s.startIter stride base w h)
    draws := s.draws + keys
    modelFault := s.faultAfter os }

/-- The envelope of a blit that is not dropped, after the flips it may report and the reads `os` before its clip. -/
theorem blitEnvelope_begun {s : State} {w h : Nat} (hc : s.clipped = some (w, h)) (i : Instr) (flips : Bool)
    (os extra : List Operand) (stride : Nat) (base : Word) (keys : Nat → Nat → Nat) :
    blitEnvelope i extra stride base keys ((s.setFlagIf flips .infoFlipIgnored).useOperands os) =
      s.begun i flips (os ++ clipOperands ++ extra) stride base (keys w h) w h := by
  have hc' : ((s.setFlagIf flips .infoFlipIgnored).useOperands os).clipped = some (w, h) := hc
  rw [blitEnvelope_started hc', State.useOperands_useOperands, State.useOperands_useOperands, State.useOperands_eq,
    State.beginCommand_eq, State.openWindow_status, State.setFlagIf_eq, State.setFlagIf_eq]
  simp only [State.isClamped, Bool.or_eq_true, decide_eq_true_eq, ← List.append_assoc]
  rfl

theorem State.useOperands_nil (s : State) : s.useOperands [] = s := by
  simp [State.useOperands, State.use, firstUnwritten]

section
variable {s : State} {w h : Nat} (hclosed : s.winOpen = false) (hc : s.clipped = some (w, h)) (fh fv : Bool)
include hclosed hc

theorem exec_blit1_begun : exec (.blit1 fh fv) s = .next (s.begun (.blit1 fh fv) (fh || fv) (clipOperands ++ [.srcBase])
    (ceil8 s.operands.tileW.value.toNat) s.operands.srcBase.value (w * h) w h) := by
  rw [exec_blit1_closed hclosed, ← State.useOperands_nil (s.setFlagIf _ _), blitEnvelope_begun hc]
  rfl

theorem exec_blit4_begun (hwidth : s.operands.imgW.value ≠ 0) : exec (.blit4 fh fv) s = .next (s.begun (.blit4 fh fv) false
    ([.imgW] ++ clipOperands ++ [.sectionId, .srcBase]) s.operands.imgW.value.toNat s.tileBase (w * h) w h) := by
  rw [exec_blit4_closed hclosed fh fv hwidth]
  exact congrArg _ (blitEnvelope_begun hc (.blit4 fh fv) false [.imgW] [.sectionId, .srcBase] _ _ pixelKeys)

theorem exec_blitRle_begun : exec (.blitRle fh fv) s = .next (s.begun (.blitRle fh fv) (fh || fv)
    (clipOperands ++ [.sectionId, .tableBase, .srcBase]) 0 s.operands.srcBase.value (s.rleKeys w h) w h) := by
  rw [exec_blitRle_closed hclosed, ← State.useOperands_nil (s.setFlagIf _ _), blitEnvelope_begun hc]
  rfl

end

/-- Whichever blit it is, one that is neither refused nor dropped begins (R173). -/
theorem exec_blit_begun {s : State} {i : Instr} {w h : Nat} (hi : isBlit i = true) (hclosed : s.winOpen = false)
    (hwidth : s.operands.imgW.value ≠ 0) (hc : s.clipped = some (w, h)) :
    ∃ flips os stride base keys, exec i s = .next (s.begun i flips os stride base keys w h) := by
  cases i with
  | blit1 fh fv => exact ⟨_, _, _, _, _, exec_blit1_begun hclosed hc fh fv⟩
  | blit4 fh fv => exact ⟨_, _, _, _, _, exec_blit4_begun hclosed hc fh fv hwidth⟩
  | blitRle fh fv => exact ⟨_, _, _, _, _, exec_blitRle_begun hclosed hc fh fv⟩
  | nop | setrot | window | pixel | close | run => simp [isBlit] at hi

/-! ## The header of the clamped rectangle -/

/-- The last row or column of a span of `n` from `a`, with the sum taken as numbers (R173). -/
theorem Half.add_pred (a : Half) {n : Nat} (hn : 1 ≤ n) :
    a + BitVec.ofNat 16 (n - 1) = BitVec.ofNat 16 (a.toNat + n - 1) := by
  rw [Nat.add_sub_assoc hn, BitVec.ofNat_add, BitVec.ofNat_toNat, BitVec.setWidth_eq]

/-- The last of the columns from `x` on is the panel's last (43_blit.md R180). -/
theorem Half.last_column {x pw : Half} (hx : x < pw) : x + BitVec.ofNat 16 (pw.toNat - x.toNat - 1) = pw - 1 := by
  have hlt : x.toNat < pw.toNat := hx
  rw [Half.add_pred x (by omega), Nat.add_sub_cancel' hlt.le]
  bv_omega

theorem State.blitHeader_eq {s : State} {w h : Nat} (hc : s.clipped = some (w, h)) :
    s.blitHeader w h = s.header (BitVec.ofNat 16 s.operands.dstX.value.toNat) (BitVec.ofNat 16 s.operands.dstY.value.toNat)
      (BitVec.ofNat 16 (s.operands.dstX.value.toNat + w - 1)) (BitVec.ofNat 16 (s.operands.dstY.value.toNat + h - 1)) := by
  obtain ⟨-, -, hw, hh, -, -⟩ := clip_eq_some hc
  simp only [State.blitHeader, Half.add_pred _ hw, Half.add_pred _ hh, BitVec.ofNat_toNat, BitVec.setWidth_eq]

/-- The tile's base with the sum taken as numbers (42_decoders.md R147). -/
theorem State.tileBase_eq (s : State) : s.tileBase = BitVec.ofNat 32 (s.operands.srcBase.value.toNat +
    tileOffset s.operands.sectionId.value.toNat s.operands.tileW.value.toNat s.operands.tileH.value.toNat
      s.operands.imgW.value.toNat) :=
  Word.add_ofNat ..

end Sys2Proof.Machine

namespace Sys2Proof

open Sys2Proof.Machine

/-- Settles O31, by the two cases of the clip. -/
theorem clipKeepsTheTileOnThePanel : Obligations.ClipKeepsTheTileOnThePanel := by
  intro s
  dsimp only
  split
  · next hoff =>
    refine (clip_eq_none_iff ..).mpr ?_
    omega
  · next hon =>
    rcases hc : s.clipped with _ | ⟨w', h'⟩
    · have hoff := (clip_eq_none_iff ..).mp hc
      omega
    · obtain ⟨hw, hh, hw1, hh1, hx, hy⟩ := clip_eq_some hc
      exact ⟨w', h', rfl, hw, hh, hw1, by omega, hh1, by omega, by omega, by omega⟩

/-- Settles O32: each blit asks for WIN_OPEN first. -/
theorem blitsNeedNoWindowOpen : Obligations.BlitsNeedNoWindowOpen :=
  fun _ _ hi hopen => exec_blit_open hi hopen

/-- Settles O33: BLIT4 asks for its image width before it clips. -/
theorem blit4NeedsAnImageWidth : Obligations.Blit4NeedsAnImageWidth :=
  fun _ fh fv hclosed hwidth => exec_blit4_noWidth hclosed fh fv hwidth

/-- Settles O34: the clip drops the tile in the state each blit hands it. -/
theorem offPanelAndEmptyBlitsAreDropped : Obligations.OffPanelAndEmptyBlitsAreDropped := by
  intro s fh fv hclosed hoff
  have hdrop : s.clipped = none := s.clipped_eq_none_iff.mpr hoff
  have hflips : (s.setFlagIf (fh || fv) .infoFlipIgnored).clipped = none := hdrop
  refine ⟨?_, ?_, fun hwidth => ?_⟩
  · rw [exec_blit1_closed hclosed, blitEnvelope_dropped hflips, State.setFlagIf_eq]
    rfl
  · rw [exec_blitRle_closed hclosed, blitEnvelope_dropped hflips, State.setFlagIf_eq]
    rfl
  · rw [exec_blit4_closed hclosed fh fv hwidth, blitEnvelope_dropped (s := s.useOperands [.imgW]) hdrop,
      State.useOperands_useOperands]
    rfl

/-- Settles O35: the clip keeps the tile, and BLIT1 reads SRC_BASE besides. -/
theorem blit1IsAccepted : Obligations.Blit1IsAccepted := by
  refine ⟨commandRefusals 5, fun s fh fv hclosed hx hy hw hh => ?_⟩
  have hc := State.clipped_of_onPanel hx hy hw hh
  dsimp only
  rw [exec_blit1_begun hclosed hc, ← State.blitHeader_eq hc]
  rfl

/-- Settles O36: the clip keeps the tile, and BLIT4 starts at the tile's base. -/
theorem blit4IsAccepted : Obligations.Blit4IsAccepted := by
  refine ⟨commandRefusals 6, fun s fh fv hclosed hwidth hx hy hw hh => ?_⟩
  have hc := State.clipped_of_onPanel hx hy hw hh
  dsimp only
  rw [exec_blit4_begun hclosed hc fh fv hwidth, ← State.blitHeader_eq hc, State.tileBase_eq, State.begun,
    if_neg Bool.false_ne_true, BitVec.or_zero]
  rfl

/-- Settles O37: the clip keeps the tile, and BLITRLE reads its table's registers besides. -/
theorem blitRleIsAccepted : Obligations.BlitRleIsAccepted := by
  refine ⟨commandRefusals 7, fun s fh fv hclosed hx hy hw hh => ?_⟩
  have hc := State.clipped_of_onPanel hx hy hw hh
  dsimp only
  rw [← State.blitHeader_eq hc]
  exact ⟨_, exec_blitRle_begun hclosed hc fh fv, rfl, _, rfl, rfl, rfl, rfl, rfl, rfl⟩

/-- Settles O38: of the columns from `x` on, the clip keeps those of the panel. -/
theorem overhangingBlitShowsTheRestOfThePanel : Obligations.OverhangingBlitShowsTheRestOfThePanel := by
  intro s t i hi hclosed hwidth hx hy hh hover hexec
  have hpanel : s.operands.dstX.value.toNat < s.orient.panelW.toNat := hx
  have hw : s.operands.tileW.value ≠ 0 := by
    intro h0
    have hzero : s.operands.tileW.value.toNat = 0 := congrArg BitVec.toNat h0
    omega
  have hc := State.clipped_of_onPanel hx hy hw hh
  rw [Nat.min_eq_right (by omega)] at hc
  obtain ⟨flips, os, stride, base, keys, hbegun⟩ := exec_blit_begun hi hclosed hwidth hc
  rw [hbegun] at hexec
  cases hexec
  rw [← Half.last_column hx]
  exact ⟨⟨_, rfl, rfl⟩, _, rfl⟩

end Sys2Proof
end

section
/-! # Whole blits

With nothing scheduled the block decodes a blit to its end, and then the transport takes the events it holds (70_reset_and_hazards.md
R241). What the block decodes is the list its decoder's definition in 42_decoders.md gives (43_blit.md R173, R177), and a run leaves
everything the next blit is made from as it was (R178). -/

namespace Sys2Proof.Machine

open Sys2Proof

/-! ## Runs -/

/-- Some number of steps lead from `s` to `t`. -/
abbrev Steps : State → State → Prop := Relation.ReflTransGen fun s t => step s = .next t

theorem Steps.exists_runSteps {s t : State} (h : Steps s t) : ∃ k, runSteps k s = .next t := by
  induction h using Relation.ReflTransGen.head_induction_on with
  | refl => exact ⟨0, rfl⟩
  | head hstep _ ih =>
    obtain ⟨k, hk⟩ := ih
    exact ⟨k + 1, (runSteps_succ hstep k).trans hk⟩

theorem Steps.coherent {s t : State} (h : Steps s t) (hs : s.Coherent) : t.Coherent := by
  induction h with
  | refl => exact hs
  | tail _ hstep ih => exact (step_effect hstep).coherent ih

/-- What the events of a blit are made from, free values and raced bytes aside, and the moves to come. -/
def State.surroundings (s : State) :
    Params × (OperandFile × Vector (Marked 16) 16 × Vector (Marked 16) 4 × Vector (Marked 16) 4 × Orientation) ×
      List Host.Cell × List Move :=
  (s.params, s.registers, s.mem, s.schedule)

theorem State.surroundings_eq_iff (s t : State) :
    t.surroundings = s.surroundings ↔
      t.params = s.params ∧ t.registers = s.registers ∧ t.mem = s.mem ∧ t.schedule = s.schedule := by
  simp [State.surroundings]

section
variable {s t : State} (hsame : t.surroundings = s.surroundings)
include hsame

/-- A read of source memory depends on the surroundings and on the bytes the host has raced with. -/
theorem State.readSource_congr_surroundings (hraced : t.raced = s.raced) (a : Word) (key : Nat) :
    t.readSource a key = s.readSource a key := by
  obtain ⟨hparams, -, hmem, -⟩ := (State.surroundings_eq_iff s t).mp hsame
  exact State.readSource_congr hparams hmem hraced a key

theorem State.color_congr (k : BitVec 4) : t.color k = s.color k := by
  obtain ⟨-, hregisters, -, -⟩ := (State.surroundings_eq_iff s t).mp hsame
  obtain ⟨-, hpal, -⟩ := (State.registers_eq_iff s t).mp hregisters
  rw [State.color, State.palEntry, hpal]
  rfl

theorem State.schedule_congr : t.schedule = s.schedule := by
  obtain ⟨-, -, -, hsched⟩ := (State.surroundings_eq_iff s t).mp hsame
  exact hsched

end

/-! ## The transport takes what is pending -/

theorem acceptEvent_schedule (s : State) : s.acceptEvent.schedule = s.schedule := by
  have htaken (e : Event) (rest : List Event) : ((s.passEvent e rest).closeOn e).schedule = s.schedule := by
    unfold State.closeOn
    split <;> rfl
  rcases s.acceptEvent_cases with ⟨-, hsame⟩ | ⟨e, rest, -, ⟨-, hnext⟩ | ⟨-, -, hnext⟩⟩
  · rw [hsame]
  · rw [hnext, htaken]
  · rw [hnext, ← htaken e rest]
    rfl

theorem acceptEvent_surroundings (s : State) : s.acceptEvent.surroundings = s.surroundings :=
  (State.surroundings_eq_iff ..).mpr
    ⟨(acceptEvent_output s).params, acceptEvent_registers s, (acceptEvent_output s).mem, acceptEvent_schedule s⟩

theorem step_of_drain {s : State} (hsched : s.schedule = []) (hdone : s.decoding = false) :
    step s = .next s.acceptEvent := by
  rw [step_of_empty_schedule hsched, hdone]
  rfl

/-- Once decoding is done the pending events are accepted in order, the window closes on `End`, and the block is idle
(10_state.md R29, R30). -/
theorem steps_drain {s : State} (hs : s.Coherent) (hsched : s.schedule = []) (hdone : s.decoding = false) :
    ∃ u, Steps s u ∧ u.busy = false ∧ u.winOpen = (s.winOpen && decide (Event.fin ∉ s.pending)) ∧
      u.accepted = s.accepted ++ s.pending ∧ u.surroundings = s.surroundings := by
  induction hp : s.pending generalizing s with
  | nil =>
    have hidle : s.busy = false := by
      by_contra hbusy
      simpa [hp, hdone] using (hs.busyHolds (by simpa using hbusy)).2
    exact ⟨s, .refl, hidle, by simp, by simp, rfl⟩
  | cons e es ih =>
    obtain ⟨hpending, haccepted, hopen, -, hiter, hrle⟩ := State.acceptEvent_of_pending hs.late hp
    have hdone' : s.acceptEvent.decoding = false := by rw [State.decoding, hiter, hrle]; exact hdone
    obtain ⟨u, hsteps, hidle, hopen', haccepted', hsame⟩ :=
      ih (acceptEvent_coherent hs) ((acceptEvent_schedule s).trans hsched) hdone' hpending
    refine ⟨u, .head (step_of_drain hsched hdone) hsteps, hidle, ?_, ?_, hsame.trans (acceptEvent_surroundings s)⟩
    · simp only [hopen', hopen, Bool.and_assoc, ← Bool.decide_and, List.mem_cons, not_or, ne_eq, eq_comm]
    · rw [haccepted', haccepted, List.append_assoc, List.singleton_append]

/-! ## Decoding to the end -/

/-- `t` is `s` after decode work that emits `es`. -/
structure Emits (s : State) (es : List Event) (t : State) : Prop where
  pending : t.pending = s.pending ++ es
  accepted : t.accepted = s.accepted
  current : t.current = s.current
  raced : t.raced = s.raced
  surroundings : t.surroundings = s.surroundings

theorem Emits.trans {s t u : State} {es es' : List Event} (h : Emits s es t) (h' : Emits t es' u) :
    Emits s (es ++ es') u where
  pending := by rw [h'.pending, h.pending, List.append_assoc]
  accepted := h'.accepted.trans h.accepted
  current := h'.current.trans h.current
  raced := h'.raced.trans h.raced
  surroundings := h'.surroundings.trans h.surroundings

/-- The decode work of `s`, done to its end, emits two bytes for each of these colors and `End`. -/
def Decodes (s : State) (colors : List Half) : Prop :=
  ∃ t, Steps s t ∧ Emits s (colors.flatMap pixelEvents ++ [.fin]) t ∧ t.decoding = false

theorem decodes_nil {s : State} (h : step s = .next s.finishDecode) : Decodes s [] :=
  ⟨_, .single h, ⟨rfl, rfl, rfl, rfl, rfl⟩, rfl⟩

/-- Decode work begins with one decode action and goes on with the rest. -/
theorem decodes_append {s t : State} {first rest : List Half} (h : step s = .next t)
    (hfirst : Emits s (first.flatMap pixelEvents) t) (hrest : Decodes t rest) : Decodes s (first ++ rest) := by
  obtain ⟨u, hsteps, hemits, hdone⟩ := hrest
  refine ⟨u, .head h hsteps, ?_, hdone⟩
  rw [List.flatMap_append, List.append_assoc]
  exact hfirst.trans hemits

section
variable {s : State} (hsched : s.schedule = [])
include hsched

theorem step_of_iter {it : Iter} (hrle : s.rle = none) (hiter : s.iter = some it) :
    step s = finishTurn (iterTurn it s) := by
  have hwork : s.decoding = true := by simp [State.decoding, hiter]
  rw [step_of_empty_schedule hsched, if_pos hwork, blockTurn_of_iter hrle hiter]

theorem step_of_rle {r : Rle} (hrle : s.rle = some r) : step s = finishTurn (rleTurn r s) := by
  have hwork : s.decoding = true := by simp [State.decoding, hrle]
  rw [step_of_empty_schedule hsched, if_pos hwork, blockTurn_of_rle hrle]

end

/-! ## Pixels -/

/-- The iterator walks the pixels in row-major order (42_decoders.md R140). -/
theorem Iter.advance_at {it : Iter} (hpos : 0 < it.visW) (n : Nat) : (it.at n).advance = it.at (n + 1) := by
  have hn : n + 1 = it.visW * (n / it.visW) + (n % it.visW + 1) := by rw [← Nat.add_assoc, Nat.div_add_mod]
  have hlt := Nat.mod_lt n hpos
  rw [Iter.advance]
  split
  · next hcol =>
    have hcol : n % it.visW + 1 < it.visW := hcol
    rw [Iter.at, Iter.at, hn, Nat.mul_add_mod, Nat.mod_eq_of_lt hcol, Nat.mul_add_div hpos, Nat.div_eq_of_lt hcol]
    rfl
  · next hcol =>
    have hcol : n % it.visW + 1 = it.visW := Nat.le_antisymm hlt (Nat.not_lt.mp hcol)
    rw [Iter.at, Iter.at, hn, hcol, ← Nat.mul_succ, Nat.mul_mod_right, Nat.mul_div_right _ hpos]

/-- The decoder of command `i` emits, pixel by pixel, the palette entry `index` says, and then `End`. -/
structure PixelDecoder (i : Instr) (index : State → Iter → BitVec 4) : Prop where
  pixel : ∀ (s : State) (it : Iter), s.current = some i → it.j < it.visH →
    ∃ x, iterTurn it s = .done (s.afterPixel it (index s it) x)
  finish : ∀ (s : State) (it : Iter), s.current = some i → it.visH ≤ it.j → iterTurn it s = .done s.finishDecode
  congr : ∀ (s t : State) (it : Iter), t.surroundings = s.surroundings → t.raced = s.raced → index t it = index s it

/-- The palette index of a BLIT1's pixel (42_decoders.md R144, R145). -/
def State.monoPixel (s : State) (it : Iter) : BitVec 4 := monoIndex (s.readSource it.monoAddr it.key) it.i

/-- The palette index of a BLIT4's pixel (42_decoders.md R148, R149). -/
def State.indexedPixel (fh fv : Bool) (s : State) (it : Iter) : BitVec 4 :=
  indexedIndex (s.readSource (it.indexedAddr fh fv) it.key)

theorem blit1_decoder (fh fv : Bool) : PixelDecoder (.blit1 fh fv) State.monoPixel where
  pixel := fun s it hcurrent hleft => ⟨_, by rw [iterTurn, hcurrent]; exact congrArg _ (monoMove_of_left hleft s)⟩
  finish := fun _ _ hcurrent => iterTurn_of_finished hcurrent rfl rfl
  congr := fun s t it hsame hraced => by
    rw [State.monoPixel, State.readSource_congr_surroundings hsame hraced, State.monoPixel]

theorem blit4_decoder (fh fv : Bool) : PixelDecoder (.blit4 fh fv) (State.indexedPixel fh fv) where
  pixel := fun s it hcurrent hleft =>
    ⟨_, by rw [iterTurn, hcurrent]; exact congrArg _ (indexedMove_of_left hleft fh fv s)⟩
  finish := fun _ _ hcurrent => iterTurn_of_finished hcurrent rfl rfl
  congr := fun s t it hsame hraced => by
    rw [State.indexedPixel, State.readSource_congr_surroundings hsame hraced, State.indexedPixel]

section
variable {i : Instr} {index : State → Iter → BitVec 4} (hdecoder : PixelDecoder i index)
include hdecoder

theorem PixelDecoder.color_congr {s t : State} (hsame : t.surroundings = s.surroundings) (hraced : t.raced = s.raced)
    (it : Iter) : t.color (index t it) = s.color (index s it) := by
  rw [hdecoder.congr s t it hsame hraced, State.color_congr hsame]

/-- One step of a pixel decoder before its end emits the pixel it stands at and moves on. -/
theorem step_of_pixel {s : State} {it : Iter} (hsched : s.schedule = []) (hcurrent : s.current = some i)
    (hrle : s.rle = none) (hiter : s.iter = some it) (hleft : it.j < it.visH) :
    ∃ t, step s = .next t ∧ Emits s ([s.color (index s it)].flatMap pixelEvents) t ∧ t.iter = some it.advance ∧
      t.rle = none := by
  obtain ⟨x, hturn⟩ := hdecoder.pixel s it hcurrent hleft
  rw [step_of_iter hsched hrle hiter, hturn, finishTurn, List.flatMap_singleton]
  exact ⟨_, rfl, ⟨rfl, rfl, rfl, rfl, rfl⟩, rfl, hrle⟩

/-- From its `n`-th pixel on, a pixel decoder emits the `m` that are left. -/
theorem decodes_pixels {it : Iter} (hpos : 0 < it.visW) {m n : Nat} (hmn : n + m = it.visW * it.visH) {s : State}
    (hsched : s.schedule = []) (hcurrent : s.current = some i) (hrle : s.rle = none) (hiter : s.iter = some (it.at n)) :
    Decodes s ((List.range' n m).map fun q => s.color (index s (it.at q))) := by
  induction m generalizing n s with
  | zero =>
    have hdone : it.visH ≤ n / it.visW := (Nat.le_div_iff_mul_le hpos).mpr (by rw [Nat.mul_comm]; omega)
    refine decodes_nil ?_
    rw [step_of_iter hsched hrle hiter, hdecoder.finish s _ hcurrent hdone, finishTurn]
  | succ m ih =>
    have hleft : n / it.visW < it.visH := Nat.div_lt_of_lt_mul (by omega)
    obtain ⟨t, hstep, hemits, hiter', hrle'⟩ := step_of_pixel hdecoder hsched hcurrent hrle hiter hleft
    have hrest := ih (n := n + 1) (by omega) ((State.schedule_congr hemits.surroundings).trans hsched)
      (hemits.current.trans hcurrent) hrle' (hiter'.trans (congrArg some (Iter.advance_at hpos n)))
    simp only [hdecoder.color_congr hemits.surroundings hemits.raced] at hrest
    exact decodes_append hstep hemits hrest

end

/-! ## Tokens -/

/-- The colors of the pixels decoded from `r.p` on, from at most `fuel` tokens: `DecodeRLE` begun at pixel `r.p`. -/
def State.tokenColors (s : State) (fuel : Nat) (r : Rle) : List Half :=
  (((s.tokenIndices fuel r).zipIdx r.p).filter fun kn => inClamp r.tileW r.visW r.visH kn.2).map fun kn => s.color kn.1

section
variable {s t : State} (hsame : t.surroundings = s.surroundings) (hraced : t.raced = s.raced)
include hsame hraced

theorem State.tokenIndices_congr (fuel : Nat) (r : Rle) : t.tokenIndices fuel r = s.tokenIndices fuel r := by
  induction fuel generalizing r with
  | zero => rfl
  | succ fuel ih =>
    have hbyte : t.tokenByte r = s.tokenByte r := State.readSource_congr_surroundings hsame hraced ..
    simp only [State.tokenIndices, hbyte, ih]

theorem State.tokenColors_congr (fuel : Nat) (r : Rle) : t.tokenColors fuel r = s.tokenColors fuel r := by
  simp only [State.tokenColors, State.tokenIndices_congr hsame hraced, State.color_congr hsame]

end

theorem State.tokenColors_of_finished (s : State) {r : Rle} (hdone : r.budget ≤ r.p) (fuel : Nat) :
    s.tokenColors fuel r = [] := by
  rw [State.tokenColors, s.tokenIndices_of_finished hdone]
  rfl

/-- The visible pixels of a run, counted in the list decoder, are those RUN emits. -/
theorem State.runColors_eq_zipIdx (s : State) (r : Rle) (n : Nat) :
    s.runColors r n = (((List.replicate n r.runIdx).zipIdx r.p).filter fun kn =>
      inClamp r.tileW r.visW r.visH kn.2).map fun kn => s.color kn.1 := by
  have hzip : (List.replicate n r.runIdx).zipIdx r.p = (List.range' r.p n).map fun q => (r.runIdx, q) :=
    List.ext_getElem (by simp) (by simp)
  rw [hzip, List.filter_map, List.map_map]
  rfl

theorem State.tokenColors_succ (s : State) {r : Rle} (hleft : r.p < r.budget) (fuel : Nat) :
    let k := r.runLength ((s.tokenByte r).extractLsb' 0 4)
    s.tokenColors (fuel + 1) r = s.runColors { r with runIdx := (s.tokenByte r).extractLsb' 4 4 } k ++
      s.tokenColors fuel { r with tp := r.tp + 1, p := r.p + k } := by
  intro k
  rw [State.tokenColors, s.tokenIndices_succ hleft, List.zipIdx_append, List.filter_append, List.map_append,
    List.length_replicate, State.runColors_eq_zipIdx]
  rfl

/-- The first step of a BLITRLE looks up its tile and emits nothing (42_decoders.md R150). -/
theorem step_of_table {s : State} {it : Iter} {fh fv : Bool} (hsched : s.schedule = [])
    (hcurrent : s.current = some (.blitRle fh fv)) (hrle : s.rle = none) (hiter : s.iter = some it) :
    step s = .next (tableMove it s) ∧ Emits s [] (tableMove it s) := by
  rw [step_of_iter hsched hrle hiter, iterTurn, hcurrent, tableMove, s.noteLookup_eq]
  exact ⟨rfl, (List.append_nil _).symm, rfl, rfl, rfl, rfl⟩

/-- One step of an RLE decoder before its end reads a token and emits the visible pixels of its run, cut at the budget
(42_decoders.md R153, R154). -/
theorem step_of_token {s : State} {r : Rle} (hsched : s.schedule = []) (hrle : s.rle = some r) (hleft : r.p < r.budget) :
    let idx := (s.tokenByte r).extractLsb' 4 4
    let k := r.runLength ((s.tokenByte r).extractLsb' 0 4)
    ∃ t, step s = .next t ∧ Emits s ((s.runColors { r with runIdx := idx } k).flatMap pixelEvents) t ∧
      t.rle = some { r with tp := r.tp + 1, p := r.p + k, runIdx := idx, runLeft := 0 } := by
  have hfinished : r.finished = false := by simp [Rle.finished, hleft]
  dsimp only
  rw [step_of_rle hsched hrle, rleTurn, hfinished, if_neg Bool.false_ne_true, finishTurn, decodeToken,
    exec_run (State.fetchToken_rle s r)]
  exact ⟨_, rfl, ⟨rfl, rfl, rfl, rfl, rfl⟩, rfl⟩

theorem decodes_finished_tokens {s : State} {r : Rle} (hsched : s.schedule = []) (hrle : s.rle = some r)
    (hdone : r.budget ≤ r.p) : Decodes s [] :=
  decodes_nil (by rw [step_of_rle hsched hrle, rleTurn_of_finished hdone, finishTurn])

/-- From tile pixel `r.p` on, the RLE decoder emits what is left of `DecodeRLE`, whatever run it decoded last. -/
theorem decodes_tokens {fuel : Nat} {r : Rle} (hfuel : r.budget - r.p ≤ fuel) {s : State} (hsched : s.schedule = [])
    {idx : BitVec 4} {left : Nat} (hrle : s.rle = some { r with runIdx := idx, runLeft := left }) :
    Decodes s (s.tokenColors fuel r) := by
  induction fuel generalizing r s idx left with
  | zero =>
    have hdone : r.budget ≤ r.p := by omega
    rw [s.tokenColors_of_finished hdone]
    exact decodes_finished_tokens hsched hrle hdone
  | succ fuel ih =>
    rcases Nat.lt_or_ge r.p r.budget with hleft | hdone
    · obtain ⟨t, hstep, hemits, hrle'⟩ := step_of_token hsched hrle hleft
      have hpos := r.runLength_pos hleft ((s.tokenByte r).extractLsb' 0 4)
      rw [s.tokenColors_succ hleft]
      refine decodes_append hstep hemits ?_
      rw [← State.tokenColors_congr hemits.surroundings hemits.raced]
      exact ih (by change r.budget - (r.p + _) ≤ fuel; omega)
        ((State.schedule_congr hemits.surroundings).trans hsched) hrle'
    · rw [s.tokenColors_of_finished hdone]
      exact decodes_finished_tokens hsched hrle hdone

/-! ## A blit from its start to its end -/

/-- A block ready for a command: coherent and idle, no window open, nothing scheduled. -/
structure State.Ready (s : State) : Prop where
  coherent : s.Coherent
  idle : s.busy = false
  closed : s.winOpen = false
  unscheduled : s.schedule = []

/-- Command `i` runs from `s` to its end, in `u`: it emits `es`, and the block is ready again with the same surroundings. -/
structure Runs (i : Instr) (s : State) (es : List Event) (u : State) : Prop where
  run : ∃ t k, exec i s = .next t ∧ runSteps k t = .next u
  ready : u.Ready
  accepted : u.accepted = s.accepted ++ es
  surroundings : u.surroundings = s.surroundings

/-- The events of a blit: the header of the clamped rectangle, two bytes a color, `End` (43_blit.md R173). -/
def State.blitEvents (s : State) (w h : Nat) (colors : List Half) : List Event :=
  s.blitHeader w h ++ colors.flatMap pixelEvents ++ [.fin]

/-- A blit that has begun runs to its end once its decode work is known. -/
theorem runs_of_decodes {s : State} (hs : s.Ready) {i : Instr} {flips : Bool} {os : List Operand} {stride : Nat}
    {base : Word} {keys w h : Nat} (hexec : exec i s = .next (s.begun i flips os stride base keys w h))
    {colors : List Half} (hdecodes : Decodes (s.begun i flips os stride base keys w h) colors) :
    ∃ u, Runs i s (s.blitEvents w h colors) u := by
  obtain ⟨t, hdecode, hemits, hdone⟩ := hdecodes
  have ht : t.Coherent := hdecode.coherent ((exec_effect hexec).coherent hs.coherent hs.idle)
  have hsame : t.surroundings = s.surroundings := hemits.surroundings
  obtain ⟨u, hdrain, hidle, hclosed, haccepted, hsame'⟩ :=
    steps_drain ht ((State.schedule_congr hsame).trans hs.unscheduled) hdone
  obtain ⟨k, hk⟩ := Steps.exists_runSteps (hdecode.trans hdrain)
  obtain ⟨-, -, -, hpending, -⟩ := hs.coherent.idle hs.idle
  have hsurroundings := hsame'.trans hsame
  refine ⟨u, ⟨_, k, hexec, hk⟩, ⟨hdrain.coherent ht, hidle, ?_, ?_⟩, ?_, hsurroundings⟩
  · simp [hclosed, hemits.pending]
  · exact (State.schedule_congr hsurroundings).trans hs.unscheduled
  · rw [haccepted, hemits.accepted, hemits.pending]
    simp [State.begun, hpending, State.blitEvents]

/-- The iterator a BLIT4 begins with (42_decoders.md R147, R148). -/
def State.indexedStart (s : State) (w h : Nat) : Iter := s.startIter s.operands.imgW.value.toNat s.tileBase w h

section
variable {s : State} {w h : Nat} (hs : s.Ready) (hc : s.clipped = some (w, h)) (fh fv : Bool)
include hs hc

/-- The whole of the clamped tile, for a pixel decoder begun at its first pixel. -/
theorem decodes_begun {i : Instr} {index : State → Iter → BitVec 4} (hdecoder : PixelDecoder i index) (flips : Bool)
    (os : List Operand) (stride : Nat) (base : Word) (keys : Nat) :
    Decodes (s.begun i flips os stride base keys w h)
      ((List.range (w * h)).map fun n => s.color (index s ((s.startIter stride base w h).at n))) := by
  obtain ⟨-, -, hrle, -⟩ := hs.coherent.idle hs.idle
  obtain ⟨-, -, hpos, -⟩ := clip_eq_some hc
  have hstart : (s.startIter stride base w h).at 0 = s.startIter stride base w h := by simp [Iter.at, State.startIter]
  have hpixels := decodes_pixels hdecoder (it := s.startIter stride base w h) hpos (m := w * h) (Nat.zero_add _)
    (s := s.begun i flips os stride base keys w h) hs.unscheduled rfl hrle (congrArg some hstart.symm)
  rw [List.range_eq_range']
  simpa only [hdecoder.color_congr (s := s) (t := s.begun i flips os stride base keys w h) rfl rfl] using hpixels

theorem blit1_runs : ∃ u, Runs (.blit1 fh fv) s (s.blitEvents w h
    (s.monoColors (s.startIter (ceil8 s.operands.tileW.value.toNat) s.operands.srcBase.value w h))) u :=
  runs_of_decodes hs (exec_blit1_begun hs.closed hc fh fv) (decodes_begun hs hc (blit1_decoder fh fv) ..)

theorem blit4_runs (hwidth : s.operands.imgW.value ≠ 0) : ∃ u, Runs (.blit4 fh fv) s (s.blitEvents w h
    (s.indexedColors fh fv (s.indexedStart w h))) u :=
  runs_of_decodes hs (exec_blit4_begun hs.closed hc fh fv hwidth) (decodes_begun hs hc (blit4_decoder fh fv) ..)

theorem blitRle_runs : ∃ u, Runs (.blitRle fh fv) s (s.blitEvents w h (s.rleColors (s.firstRle w h))) u := by
  obtain ⟨-, -, hrle, -⟩ := hs.coherent.idle hs.idle
  refine runs_of_decodes hs (exec_blitRle_begun hs.closed hc fh fv) ?_
  obtain ⟨hstep, hemits⟩ := step_of_table (s := s.begun (.blitRle fh fv) (fh || fv)
    (clipOperands ++ [.sectionId, .tableBase, .srcBase]) 0 s.operands.srcBase.value (s.rleKeys w h) w h)
    hs.unscheduled rfl hrle rfl
  have hrest := decodes_tokens (r := s.firstRle w h) (Nat.sub_le ..)
    ((State.schedule_congr hemits.surroundings).trans hs.unscheduled) rfl
  rw [State.tokenColors_congr (s := s) hemits.surroundings hemits.raced] at hrest
  exact decodes_append (first := []) hstep hemits hrest

end

theorem Runs.frame {i : Instr} {s u : State} {es : List Event} (h : Runs i s es u) :
    u.operands = s.operands ∧ u.pal = s.pal ∧ u.orient = s.orient ∧ u.mem = s.mem := by
  obtain ⟨-, hregisters, hmem, -⟩ := (State.surroundings_eq_iff s u).mp h.surroundings
  obtain ⟨hoperands, hpal, -, -, horient⟩ := (State.registers_eq_iff s u).mp hregisters
  exact ⟨hoperands, hpal, horient, hmem⟩

/-- What the end of a blit's run shows: an idle block with its window closed, the blit's picture accepted, and the registers and
source memory unchanged. -/
theorem exists_run_of_runs {i : Instr} {s : State} {w h : Nat} {colors : List Half}
    (hruns : ∃ u, Runs i s (s.blitEvents w h colors) u) :
    ∃ t k u, exec i s = .next t ∧ runSteps k t = .next u ∧ u.busy = false ∧ u.winOpen = false ∧
      u.accepted = s.accepted ++ s.blitHeader w h ++ colors.flatMap pixelEvents ++ [.fin] ∧
      u.operands = s.operands ∧ u.pal = s.pal ∧ u.orient = s.orient ∧ u.mem = s.mem := by
  obtain ⟨u, hu⟩ := hruns
  obtain ⟨t, k, hexec, hk⟩ := hu.run
  exact ⟨t, k, u, hexec, hk, hu.ready.idle, hu.ready.closed, by simp [hu.accepted, State.blitEvents], hu.frame⟩

/-! ## A blit issued again -/

/-- The colors of a BLIT4 whose bytes all exist are those of source memory, whatever the free values are (20_memory.md R52). -/
theorem State.indexedColors_of_inSource {s : State} (hraced : s.raced = []) (fh fv : Bool) {it : Iter}
    (hin : ∀ n, n < it.visW * it.visH → s.inSource ((it.at n).indexedAddr fh fv) = true) :
    s.indexedColors fh fv it = (List.range (it.visW * it.visH)).map fun n =>
      s.color (indexedIndex (Memory.read s.mem ((it.at n).indexedAddr fh fv).toNat)) :=
  List.map_congr_left fun n hn => by
    rw [State.readSource_of_calm _ (hin n (List.mem_range.mp hn)) hraced]

theorem State.blitEvents_length (s : State) (w h : Nat) (colors : List Half) :
    (s.blitEvents w h colors).length = 12 + 2 * colors.length := by
  have hheader : (s.blitHeader w h).length = 11 := s.header_length ..
  have hpixels : (colors.flatMap pixelEvents).length = 2 * colors.length := by
    simp [List.length_flatMap, pixelEvents_length, Nat.mul_comm]
  rw [State.blitEvents, List.length_append, List.length_append, hheader, hpixels, List.length_singleton]
  omega

section
variable {s u : State} (hsame : u.surroundings = s.surroundings)
include hsame

theorem State.operands_congr : u.operands = s.operands := by
  obtain ⟨-, hregisters, -, -⟩ := (State.surroundings_eq_iff s u).mp hsame
  obtain ⟨hoperands, -⟩ := (State.registers_eq_iff s u).mp hregisters
  exact hoperands

/-- The header depends on the parameters, the operands and the orientation alone. -/
theorem State.blitHeader_congr (w h : Nat) : u.blitHeader w h = s.blitHeader w h := by
  obtain ⟨hparams, hregisters, -, -⟩ := (State.surroundings_eq_iff s u).mp hsame
  obtain ⟨hoperands, -, -, -, horient⟩ := (State.registers_eq_iff s u).mp hregisters
  simp only [State.blitHeader, State.header, hparams, hoperands, horient]

/-- Only the free values of a BLIT4 differ from those it would have in the same surroundings. -/
theorem State.indexedAddr_congr (fh fv : Bool) (w h n : Nat) :
    ((u.indexedStart w h).at n).indexedAddr fh fv = ((s.indexedStart w h).at n).indexedAddr fh fv := by
  simp only [Iter.indexedAddr, Iter.at, State.indexedStart, State.startIter, State.tileBase, State.operands_congr hsame]

/-- In the same surroundings a BLIT4 whose bytes all exist has the same colors (43_blit.md R178). -/
theorem State.indexedColors_congr (hraced : s.raced = []) (hraced' : u.raced = []) {fh fv : Bool} {w h : Nat}
    (hin : ∀ n, n < w * h → s.inSource (((s.indexedStart w h).at n).indexedAddr fh fv) = true) :
    u.indexedColors fh fv (u.indexedStart w h) = s.indexedColors fh fv (s.indexedStart w h) := by
  obtain ⟨hparams, -, hmem, -⟩ := (State.surroundings_eq_iff s u).mp hsame
  have hin' (n : Nat) (hn : n < w * h) : u.inSource (((u.indexedStart w h).at n).indexedAddr fh fv) = true := by
    rw [State.indexedAddr_congr hsame, State.inSource, hparams]
    exact hin n hn
  rw [State.indexedColors_of_inSource hraced fh fv hin, State.indexedColors_of_inSource hraced' fh fv hin']
  simp only [State.indexedAddr_congr hsame, State.color_congr hsame, hmem]
  rfl

end

end Sys2Proof.Machine

namespace Sys2Proof

open Sys2Proof.Machine

/-- Settles O49: the block decodes the pixels in scan order, then the transport takes all that is pending. -/
theorem blit1EmitsItsPicture : Obligations.Blit1EmitsItsPicture :=
  fun _ fh fv _ _ hs hidle hclosed hsched hc => exists_run_of_runs (blit1_runs ⟨hs, hidle, hclosed, hsched⟩ hc fh fv)

/-- Settles O50: the same run, with the pixels of the flipped tile. -/
theorem blit4EmitsItsPicture : Obligations.Blit4EmitsItsPicture :=
  fun _ fh fv _ _ hs hidle hclosed hsched hwidth hc =>
    exists_run_of_runs (blit4_runs ⟨hs, hidle, hclosed, hsched⟩ hc fh fv hwidth)

/-- Settles O51: after its table lookup the block decodes a token a step, and each token's run is a part of the list. -/
theorem blitRleEmitsItsPicture : Obligations.BlitRleEmitsItsPicture :=
  fun _ fh fv _ _ hs hidle hclosed hsched hc => exists_run_of_runs (blitRle_runs ⟨hs, hidle, hclosed, hsched⟩ hc fh fv)

/-- Settles O55: the first run leaves the surroundings as they were, and with every byte in source memory the events depend on
them alone. -/
theorem repeatedBlit4EmitsTheSameEvents : Obligations.RepeatedBlit4EmitsTheSameEvents := by
  intro s fh fv w h hs hidle hclosed hsched hwidth hc hin
  obtain ⟨u, hu⟩ := blit4_runs ⟨hs, hidle, hclosed, hsched⟩ hc fh fv hwidth
  obtain ⟨t, k, hexec, hk⟩ := hu.run
  obtain ⟨hoperands, hpal, horient, hmem⟩ := hu.frame
  have hagain : u.clipped = some (w, h) := by rw [State.clipped, hoperands, horient]; exact hc
  obtain ⟨u', hu'⟩ := blit4_runs hu.ready hagain fh fv (hoperands ▸ hwidth)
  obtain ⟨t', k', hexec', hk'⟩ := hu'.run
  obtain ⟨hoperands', hpal', horient', -⟩ := hu'.frame
  obtain ⟨-, -, -, -, -, -, hraced⟩ := hs.idle hidle
  obtain ⟨-, -, -, -, -, -, hraced'⟩ := hu.ready.coherent.idle hu.ready.idle
  have haccepted := hu'.accepted
  rw [State.blitEvents, State.blitHeader_congr hu.surroundings, State.indexedColors_congr hu.surroundings hraced hraced' hin]
    at haccepted
  refine ⟨_, t, k, u, t', k', u', hexec, hk, hu.ready.idle, hu.accepted, hexec', hk', hu'.ready.idle, haccepted, ?_,
    hoperands'.trans hoperands, hpal'.trans hpal, horient'.trans horient⟩
  rw [State.blitEvents_length, State.indexedColors, List.length_map, List.length_range]
  rfl

end Sys2Proof
end

section
/-! # Flags are reports

No event depends on a sticky flag (60_exceptions.md R204): of STATUS the block reads BUSY and WIN_OPEN alone. Each operation and
each turn of the machine takes two states that differ in their reports alone (`SameButReports`) to two such states. -/

namespace Sys2Proof.Machine

open Sys2Proof

/-! ## States that differ in their reports -/

/-- The state with other reports to the host: STATUS and the data of the last bus read. -/
def State.withReports (status data : Word) (s : State) : State := { s with status := status, readData := data }

/-- Two values of STATUS that agree on BUSY and WIN_OPEN (10_state.md R28). -/
def SameStateBits (x y : Word) : Prop := y.getLsbD 0 = x.getLsbD 0 ∧ y.getLsbD 1 = x.getLsbD 1

theorem SameStateBits.refl (x : Word) : SameStateBits x x := ⟨rfl, rfl⟩

theorem SameStateBits.or {x y : Word} (h : SameStateBits x y) (m : Word) : SameStateBits (x ||| m) (y ||| m) := by
  simp only [SameStateBits, BitVec.getLsbD_or, h.1, h.2, and_self]

theorem SameStateBits.and {x y : Word} (h : SameStateBits x y) (m : Word) : SameStateBits (x &&& m) (y &&& m) := by
  simp only [SameStateBits, BitVec.getLsbD_and, h.1, h.2, and_self]

theorem sameButReports_iff (s t : State) :
    SameButReports s t ↔ ∃ status data, t = s.withReports status data ∧ SameStateBits s.status status := by
  constructor
  · rintro ⟨hsame, hbusy, hopen⟩
    exact ⟨t.status, t.readData, hsame, hbusy, hopen⟩
  · rintro ⟨status, data, rfl, hbusy, hopen⟩
    exact ⟨rfl, hbusy, hopen⟩

/-- Reports that agree on BUSY and WIN_OPEN may be put in place of any. -/
theorem SameStateBits.withReports {x y : Word} (h : SameStateBits x y) (data data' : Word) (u : State) :
    SameButReports (u.withReports x data) (u.withReports y data') :=
  ⟨rfl, h.1, h.2⟩

/-! ## The operations on the state -/

/-- What neither reads nor changes the reports keeps two states the same but for them. -/
theorem SameButReports.map {s t : State} (h : SameButReports s t) {f : State → State}
    (hf : ∀ u status data, f (u.withReports status data) = (f u).withReports status data) :
    SameButReports (f s) (f t) := by
  obtain ⟨status, data, rfl, hbits⟩ := (sameButReports_iff s t).mp h
  have hself : f s = (f s).withReports s.status s.readData := hf s s.status s.readData
  rw [hf, hself]
  exact hbits.withReports _ _ (f s)

section
variable {s t : State} (h : SameButReports s t)
include h

theorem SameButReports.orBits (m : Word) :
    SameButReports { s with status := s.status ||| m } { t with status := t.status ||| m } := by
  obtain ⟨status, data, rfl, hbits⟩ := (sameButReports_iff s t).mp h
  exact (hbits.or m).withReports _ _ s

theorem SameButReports.andBits (m : Word) :
    SameButReports { s with status := s.status &&& m } { t with status := t.status &&& m } := by
  obtain ⟨status, data, rfl, hbits⟩ := (sameButReports_iff s t).mp h
  exact (hbits.and m).withReports _ _ s

theorem SameButReports.setFlag (f : Flag) : SameButReports (s.setFlag f) (t.setFlag f) := h.orBits f.mask

theorem SameButReports.setFlagIf (c : Bool) (f : Flag) : SameButReports (s.setFlagIf c f) (t.setFlagIf c f) := by
  cases c
  · exact h
  · exact h.setFlag f

theorem SameButReports.setWinOpen (b : Bool) : SameButReports (s.setWinOpen b) (t.setWinOpen b) := by
  cases b
  · exact h.andBits _
  · exact h.orBits _

theorem SameButReports.useOperands (os : List Operand) : SameButReports (s.useOperands os) (t.useOperands os) :=
  h.map fun _ _ _ => rfl

theorem SameButReports.beginCommand (i : Instr) (es : List Event) :
    SameButReports (s.beginCommand i es) (t.beginCommand i es) :=
  (h.orBits busyMask).map (f := fun u => { u.emit es with current := some i }) fun _ _ _ => rfl

theorem SameButReports.finishDecode : SameButReports s.finishDecode t.finishDecode := h.map fun _ _ _ => rfl

/-- A completion settles the same flags in both (60_exceptions.md R205). -/
theorem SameButReports.complete : SameButReports s.complete t.complete := by
  obtain ⟨status, data, rfl, hbits⟩ := (sameButReports_iff s t).mp h
  exact ((hbits.or s.settledLate).and (~~~busyMask)).withReports _ _ s.complete

theorem SameButReports.statusWrite (d : Word) : SameButReports (s.statusWrite d) (t.statusWrite d) := by
  have hbusy := h.busy
  obtain ⟨status, data, rfl, hbits⟩ := (sameButReports_iff s t).mp h
  simp only [State.statusWrite, hbusy]
  exact (hbits.and _).withReports _ _ (s.statusWrite d)

theorem SameButReports.setAfterClear (m before : Word) :
    SameButReports (s.setAfterClear m before) (t.setAfterClear m before) := by
  obtain ⟨status, data, rfl, hbits⟩ := (sameButReports_iff s t).mp h
  exact (hbits.or _).withReports _ _ (s.setAfterClear m before)

theorem SameButReports.storeReg (r : RegId) (d : Word) : SameButReports (s.storeReg r d) (t.storeReg r d) := by
  cases r <;> exact h.map fun _ _ _ => rfl

theorem SameButReports.storeIdle (r : RegId) (d : Word) : SameButReports (s.storeIdle r d) (t.storeIdle r d) := by
  simp only [State.storeIdle, h.busy]
  split
  · exact h.setFlag _
  · exact h.storeReg r d

theorem SameButReports.regWrite (r : RegId) (d : Word) : SameButReports (s.regWrite r d) (t.regWrite r d) := by
  cases r with
  | cmd => exact h
  | status => exact h.statusWrite d
  | operand _ | offx _ | offy _ | pal _ => exact h.storeIdle _ d
  | rot | xoff | yoff | panelW | panelH | reserved _ => exact h.setFlag .errIllegal

/-- A bus read draws the same free values in both, whatever data it returns (40_control.md R101). -/
theorem SameButReports.regRead (r : RegId) : SameButReports (s.regRead r) (t.regRead r) := by
  obtain ⟨status, data, rfl, hbits⟩ := (sameButReports_iff s t).mp h
  cases r with
  | status => exact (hbits.or s.shownLate).withReports _ _ (s.regRead .status)
  | cmd | operand _ | rot | xoff | yoff | panelW | panelH | offx _ | offy _ | pal _ | reserved _ =>
    exact hbits.withReports _ _ (s.reserve _)

theorem SameButReports.closeOn (e : Event) : SameButReports (s.closeOn e) (t.closeOn e) := by
  unfold State.closeOn
  split
  · exact h.setWinOpen false
  · exact h

theorem SameButReports.completeIfDone : SameButReports s.completeIfDone t.completeIfDone := by
  have hdone : (t.pending.isEmpty && !t.decoding) = (s.pending.isEmpty && !s.decoding) := by rw [h.same]; rfl
  simp only [State.completeIfDone, hdone]
  split
  · exact h.complete
  · exact h

theorem SameButReports.acceptEvent : SameButReports s.acceptEvent t.acceptEvent := by
  have hpending : t.pending = s.pending := by rw [h.same]
  simp only [State.acceptEvent, hpending]
  split
  · exact h
  · exact ((h.map fun _ _ _ => rfl).closeOn _).completeIfDone

end

/-! ## Instructions -/

/-- Two outcomes of one kind, their states the same but for the reports. -/
inductive SameOutcome : Host.Outcome State Fault Refusal → Host.Outcome State Fault Refusal → Prop where
  | next {s t : State} (h : SameButReports s t) : SameOutcome (.next s) (.next t)
  | fault (f : Fault) : SameOutcome (.fault f) (.fault f)
  | refused (r : Refusal) : SameOutcome (.refused r) (.refused r)

theorem SameOutcome.of_next {o o' : Host.Outcome State Fault Refusal} {s t : State} (hs : o = .next s) (ht : o' = .next t)
    (h : SameButReports s t) : SameOutcome o o' :=
  hs ▸ ht ▸ .next h

section
variable {s t : State} (h : SameButReports s t)
include h

/-- Whether a blit is dropped, and how it is clamped, depends on no report. -/
theorem SameButReports.blitEnvelope (i : Instr) (extra : List Operand) (stride : Nat) (base : Word)
    (keys : Nat → Nat → Nat) :
    SameButReports (blitEnvelope i extra stride base keys s) (blitEnvelope i extra stride base keys t) := by
  have hclip : t.clipped = s.clipped := by rw [h.same]; rfl
  rcases hc : s.clipped with _ | ⟨w, ht⟩
  · rw [blitEnvelope_dropped hc, blitEnvelope_dropped (hclip.trans hc)]
    exact (h.useOperands _).setFlag _
  · have hclamped : t.isClamped w ht = s.isClamped w ht := by rw [h.same]; rfl
    have hheader : t.blitHeader w ht = s.blitHeader w ht := by rw [h.same]; rfl
    have hiter : t.startIter stride base w ht = s.startIter stride base w ht := by rw [h.same]; rfl
    rw [blitEnvelope_started hc, blitEnvelope_started (hclip.trans hc), hclamped, hheader, hiter]
    have hbegun := ((((h.useOperands clipOperands).useOperands extra).setFlagIf (s.isClamped w ht)
      .infoClamped).setWinOpen true).beginCommand i (s.blitHeader w ht)
    exact hbegun.map (f := fun u => { u.reserve (keys w ht) with iter := some (s.startIter stride base w ht) })
      fun _ _ _ => rfl

theorem SameButReports.execBlit4 (fh fv : Bool) : SameOutcome (exec (.blit4 fh fv) s) (exec (.blit4 fh fv) t) := by
  have hoperands : t.operands = s.operands := by rw [h.same]
  have hbase : t.tileBase = s.tileBase := by rw [State.tileBase, hoperands]; rfl
  cases hw : s.winOpen with
  | true => exact .of_next (exec_blit_open rfl hw) (exec_blit_open rfl (h.winOpen.trans hw)) (h.setFlag _)
  | false =>
    have hw' := h.winOpen.trans hw
    by_cases hwidth : s.operands.imgW.value = 0
    · exact .of_next (exec_blit4_noWidth hw fh fv hwidth) (exec_blit4_noWidth hw' fh fv (hoperands ▸ hwidth))
        ((h.useOperands _).setFlag _)
    · have ht := exec_blit4_closed hw' fh fv (hoperands ▸ hwidth)
      rw [hoperands, hbase] at ht
      exact .of_next (exec_blit4_closed hw fh fv hwidth) ht ((h.useOperands _).blitEnvelope _ _ _ _ _)

/-- RUN emits the pixels the counters and the palette say, and is refused where no decoder is in progress. -/
theorem SameButReports.execRun (idx len : BitVec 4) : SameOutcome (exec (.run idx len) s) (exec (.run idx len) t) := by
  obtain ⟨status, data, rfl, hbits⟩ := (sameButReports_iff s t).mp h
  have hrle : (s.withReports status data).rle = s.rle := rfl
  rcases hr : s.rle with _ | r
  · simp only [exec, Machine.execRun, hrle, hr]
    exact .refused _
  · exact .of_next (exec_run hr idx len) (exec_run (hrle.trans hr) idx len) (hbits.withReports _ _ { s with
      pending := s.pending ++ (s.runColors { r with runIdx := idx } (r.runLength len)).flatMap pixelEvents
      modelFault := s.modelFault.or (s.entryFault idx (r.showsAny (r.runLength len)))
      rle := some { r with p := r.p + r.runLength len, runIdx := idx, runLeft := 0 } })

/-- Of the reports an instruction asks for WIN_OPEN alone (60_exceptions.md R203). -/
theorem SameButReports.exec (i : Instr) : SameOutcome (exec i s) (exec i t) := by
  have hoperands : t.operands = s.operands := by rw [h.same]
  have hopen (hw : s.winOpen = true) : t.winOpen = true := h.winOpen.trans hw
  have hclosed (hw : s.winOpen = false) : t.winOpen = false := h.winOpen.trans hw
  cases i with
  | nop => exact .next h
  | setrot rot =>
    cases hw : s.winOpen with
    | true => exact .of_next (exec_setrot_open hw rot) (exec_setrot_open (hopen hw) rot) (h.setFlag _)
    | false =>
      exact .of_next (exec_setrot_closed hw rot) (exec_setrot_closed (hclosed hw) rot)
        (h.map (f := fun u => { u.useOffsets rot with orient := u.orientationFor rot }) fun _ _ _ => rfl)
  | window =>
    have hheader : t.windowHeader = s.windowHeader := by rw [h.same]; rfl
    rw [exec_window, exec_window, hheader]
    exact .next (((h.useOperands _).setWinOpen true).beginCommand _ _)
  | pixel =>
    cases hw : s.winOpen with
    | true =>
      rw [exec_pixel_open hw, exec_pixel_open (hopen hw), hoperands]
      exact .next ((h.useOperands _).beginCommand _ _)
    | false => exact .of_next (exec_pixel_closed hw) (exec_pixel_closed (hclosed hw)) (h.setFlag _)
  | close =>
    cases hw : s.winOpen with
    | true =>
      exact .of_next (exec_close_open hw) (exec_close_open (hopen hw)) ((h.setWinOpen false).beginCommand _ _)
    | false => exact .of_next (exec_close_closed hw) (exec_close_closed (hclosed hw)) h
  | blit1 fh fv =>
    cases hw : s.winOpen with
    | true => exact .of_next (exec_blit_open rfl hw) (exec_blit_open rfl (hopen hw)) (h.setFlag _)
    | false =>
      rw [exec_blit1_closed hw, exec_blit1_closed (hclosed hw), hoperands]
      exact .next ((h.setFlagIf _ _).blitEnvelope _ _ _ _ _)
  | blit4 fh fv => exact h.execBlit4 fh fv
  | blitRle fh fv =>
    cases hw : s.winOpen with
    | true => exact .of_next (exec_blit_open rfl hw) (exec_blit_open rfl (hopen hw)) (h.setFlag _)
    | false =>
      have hkeys : t.rleKeys = s.rleKeys := by rw [h.same]; rfl
      rw [exec_blitRle_closed hw, exec_blitRle_closed (hclosed hw), hoperands, hkeys]
      exact .next ((h.setFlagIf _ _).blitEnvelope _ _ _ _ _)
  | run idx len => exact h.execRun idx len

end

/-! ## Turns -/

/-- Two turns of one kind, their states the same but for the reports. -/
inductive SameTurn : Turn → Turn → Prop where
  | run (i : Instr) {s t : State} (h : SameButReports s t) : SameTurn (.run i s) (.run i t)
  | done {s t : State} (h : SameButReports s t) : SameTurn (.done s) (.done t)
  | stop (f : Fault) : SameTurn (.stop f) (.stop f)

theorem SameTurn.finish {a b : Turn} (h : SameTurn a b) : SameOutcome (finishTurn a) (finishTurn b) := by
  cases h with
  | run i h => exact h.exec i
  | done h => exact .next h
  | stop f => exact .fault f

theorem SameTurn.setAfterClear {a b : Turn} (h : SameTurn a b) (m before : Word) :
    SameTurn (a.map (State.setAfterClear m before)) (b.map (State.setAfterClear m before)) := by
  cases h with
  | run i h => exact .run i (h.setAfterClear m before)
  | done h => exact .done (h.setAfterClear m before)
  | stop f => exact .stop f

section
variable {s t : State} (h : SameButReports s t)
include h

theorem SameButReports.commandTurn (d : Word) : SameTurn (commandTurn d s) (commandTurn d t) := by
  simp only [Machine.commandTurn, h.busy]
  split
  · exact .done (h.setFlag _)
  · split
    · exact .run _ h
    · exact .done (h.setFlag _)

theorem SameButReports.busTurn (op : BusOp) : SameTurn (busTurn op s) (busTurn op t) := by
  cases op with
  | read a => exact .done (h.regRead _)
  | write a d =>
    simp only [Machine.busTurn]
    split
    · exact h.commandTurn d
    · exact .done (h.regWrite _ d)

theorem SameButReports.monoMove (it : Iter) : SameButReports (monoMove it s) (monoMove it t) := by
  refine h.map fun u status data => ?_
  unfold Machine.monoMove
  split <;> rfl

theorem SameButReports.indexedMove (fh fv : Bool) (it : Iter) :
    SameButReports (indexedMove fh fv it s) (indexedMove fh fv it t) := by
  refine h.map fun u status data => ?_
  unfold Machine.indexedMove
  split <;> rfl

theorem SameButReports.tableMove (it : Iter) : SameButReports (tableMove it s) (tableMove it t) := by
  refine h.map fun u status data => ?_
  simp only [Machine.tableMove, State.noteLookup_eq]
  rfl

theorem SameButReports.iterTurn (it : Iter) : SameTurn (iterTurn it s) (iterTurn it t) := by
  have hcurrent : t.current = s.current := by rw [h.same]
  simp only [Machine.iterTurn, hcurrent]
  split
  · exact .done (h.monoMove it)
  · exact .done (h.indexedMove _ _ it)
  · exact .done (h.tableMove it)
  · exact .done h

theorem SameButReports.rleTurn (r : Rle) : SameTurn (rleTurn r s) (rleTurn r t) := by
  have htoken : t.tokenByte r = s.tokenByte r := by rw [h.same]; rfl
  simp only [Machine.rleTurn, htoken]
  split
  · exact .done h.finishDecode
  · exact .run _ (h.map fun _ _ _ => rfl)

/-- A decode action neither reads nor changes STATUS. -/
theorem SameButReports.blockTurn : SameTurn (blockTurn s) (blockTurn t) := by
  have hrle : t.rle = s.rle := by rw [h.same]
  have hiter : t.iter = s.iter := by rw [h.same]
  simp only [Machine.blockTurn, hrle, hiter]
  split
  · exact h.rleTurn _
  · split
    · exact h.iterTurn _
    · exact .done h

theorem SameButReports.sameStepBlock (m : Word) : SameTurn (sameStepBlock m s) (sameStepBlock m t) := by
  have hraised : t.raised = s.raised := by rw [h.same]
  have hlowered : SameButReports { s with raised := 0 } { t with raised := 0 } :=
    h.map (f := fun u => { u with raised := 0 }) fun _ _ _ => rfl
  simp only [Machine.sameStepBlock, hraised]
  exact hlowered.blockTurn.setAfterClear m s.raised

theorem SameButReports.busBlockTurn (op : BusOp) : SameTurn (busBlockTurn op s) (busBlockTurn op t) := by
  have hbus := h.busTurn op
  simp only [Machine.busBlockTurn, h.busy]
  generalize Machine.busTurn op s = a, Machine.busTurn op t = b at hbus
  cases hbus with
  | run i hrun => exact .run i hrun
  | done hdone =>
    dsimp only
    split
    · exact hdone.sameStepBlock _
    · exact .done hdone
  | stop f => exact .stop f

theorem SameButReports.hostStoreTurn (a : Word) (b : Byte) : SameTurn (hostStoreTurn a b s) (hostStoreTurn a b t) := by
  have hbusy := h.busy
  obtain ⟨status, data, rfl, hbits⟩ := (sameButReports_iff s t).mp h
  have hin : (s.withReports status data).inSource a = s.inSource a := rfl
  simp only [Machine.hostStoreTurn, hin, hbusy]
  split
  · exact .done (hbits.withReports _ _ (s.overwrite a b))
  · exact .stop _

/-- A reset leaves STATUS 0 in both (70_reset_and_hazards.md R230). -/
theorem SameButReports.resetBlock : SameButReports s.resetBlock t.resetBlock := by
  obtain ⟨status, data, rfl, -⟩ := (sameButReports_iff s t).mp h
  exact (SameStateBits.refl 0).withReports _ _ s.resetBlock

theorem SameButReports.moveTurn (m : Move) : SameTurn (moveTurn m s) (moveTurn m t) := by
  cases m with
  | bus op => exact h.busTurn op
  | busWithBlock op => exact h.busBlockTurn op
  | block => exact h.blockTurn
  | accept => exact .done h.acceptEvent
  | hostStore a b => exact h.hostStoreTurn a b
  | reset _ => exact .done h.resetBlock

theorem SameButReports.idleTurn : SameTurn (idleTurn s) (idleTurn t) := by
  have hdecoding : t.decoding = s.decoding := by rw [h.same]; rfl
  simp only [Machine.idleTurn, hdecoding]
  split
  · exact h.blockTurn
  · exact .done h.acceptEvent

theorem SameButReports.turn : SameTurn (turn s) (turn t) := by
  have hschedule : t.schedule = s.schedule := by rw [h.same]
  simp only [Machine.turn, hschedule]
  split
  · exact h.idleTurn
  · next rest _ =>
    exact (h.map (f := fun u => { u with schedule := rest }) fun _ _ _ => rfl).moveTurn _

/-- The agent that moves, and what its move does, depends on no sticky flag and on no data read (60_exceptions.md R204). -/
theorem SameButReports.step : SameOutcome (step s) (step t) := h.turn.finish

end

end Sys2Proof.Machine

namespace Sys2Proof

open Sys2Proof.Machine

/-- Settles O19: the two states make the same turn, and it goes on in both. -/
theorem reportFlagsChangeNoEvent : Obligations.ReportFlagsChangeNoEvent := by
  intro s t s' h hs
  have hstep := h.step
  rw [hs] at hstep
  generalize step t = o at hstep
  cases hstep with
  | next h' => exact ⟨_, rfl, h'⟩

end Sys2Proof
end

section
/-! # The model fault

A read of a register nothing has written is recorded, the first one by name, and no step clears the record
(60_exceptions.md R213, log 3). -/

namespace Sys2Proof.Machine

open Sys2Proof

/-- From `s` to `t` the record of unwritten reads only gains a first one (R213). -/
def KeepsFault (s t : State) : Prop := ∃ f, t.modelFault = s.modelFault.or f

theorem KeepsFault.of_eq {s t : State} (h : t.modelFault = s.modelFault) : KeepsFault s t := ⟨none, by simp [h]⟩

theorem KeepsFault.trans {s t u : State} (h : KeepsFault s t) (h' : KeepsFault t u) : KeepsFault s u := by
  obtain ⟨f, hf⟩ := h
  obtain ⟨g, hg⟩ := h'
  exact ⟨f.or g, by rw [hg, hf, Option.or_assoc]⟩

theorem KeepsFault.recorded {s t : State} (h : KeepsFault s t) {r : RegId} (hr : s.modelFault = some r) :
    t.modelFault = some r := by
  obtain ⟨f, hf⟩ := h
  rw [hf, hr, Option.some_or]

theorem blitEnvelope_keepsFault (i : Instr) (extra : List Operand) (stride : Nat) (base : Word) (keys : Nat → Nat → Nat)
    (s : State) : KeepsFault s (blitEnvelope i extra stride base keys s) := by
  rcases hc : s.clipped with _ | ⟨w, h⟩
  · rw [blitEnvelope_dropped hc]
    exact ⟨_, rfl⟩
  · rw [blitEnvelope_started hc, State.useOperands_useOperands]
    exact ⟨_, rfl⟩

theorem ExecEffect.keepsFault {i : Instr} {s t : State} (h : ExecEffect s i t) : KeepsFault s t := by
  cases h with
  | same | rejected _ _ | close _ => exact .of_eq rfl
  | noWidth _ _ | setrot _ _ | window | pixel _ | run _ _ _ => exact ⟨_, rfl⟩
  | blit _ _ hstart extra stride base keys =>
    have hread : KeepsFault s (s.useOperands [.imgW]) := ⟨_, rfl⟩
    rcases hstart with rfl | ⟨c, rfl⟩
    · exact hread.trans (blitEnvelope_keepsFault _ _ _ _ _ _)
    · exact blitEnvelope_keepsFault _ _ _ _ _ (s.setFlagIf c .infoFlipIgnored)

theorem BusEffect.keepsFault {op : BusOp} {s t : State} (h : BusEffect s op t) : KeepsFault s t := by
  cases h with
  | read _ | flag _ | clear _ => exact .of_eq rfl
  | store r _ _ => cases r <;> exact .of_eq rfl

theorem BlockEffect.keepsFault {s t : State} (h : BlockEffect s t) : KeepsFault s t := by
  cases h with
  | none => exact .of_eq rfl
  | act _ _ _ haction =>
    cases haction with
    | finish | lookup _ _ _ => exact .of_eq rfl
    | pixel _ _ _ | token _ _ _ => exact ⟨_, rfl⟩

@[simp] theorem State.closeOn_modelFault (s : State) (e : Event) : (s.closeOn e).modelFault = s.modelFault := by
  unfold State.closeOn
  split <;> rfl

theorem acceptEvent_keepsFault (s : State) : KeepsFault s s.acceptEvent := by
  rcases s.acceptEvent_cases with ⟨-, hsame⟩ | ⟨e, rest, -, ⟨-, hnext⟩ | ⟨-, -, hnext⟩⟩
  · exact .of_eq (by rw [hsame])
  · exact .of_eq (by simp [hnext])
  · exact .of_eq (by simp [hnext])

theorem StepEffect.keepsFault {s t : State} (h : StepEffect s t) : KeepsFault s t := by
  cases h with
  | transaction _ hbus hblock => exact hbus.keepsFault.trans hblock.keepsFault
  | command _ _ hran => exact (exec_effect hran).keepsFault
  | block hblock => exact hblock.keepsFault
  | accept => exact acceptEvent_keepsFault s.popped
  | hostStore _ _ | reset _ => exact .of_eq rfl

/-- Registers whose marks are all set are read without a record (R213). -/
theorem State.faultAfter_of_written {s : State} {os : List Operand} (h : ∀ o ∈ os, s.operands.written o = true) :
    s.faultAfter os = s.modelFault := by
  have hnone : firstUnwritten (os.map fun o => (.operand o, s.operands.written o)) = none := by
    simpa [firstUnwritten] using h
  rw [State.faultAfter, hnone, Option.or_none]

end Sys2Proof.Machine

namespace Sys2Proof

open Sys2Proof.Machine

/-- Settles O16: every effect of a step, a reset included, leaves a recorded fault first. -/
theorem modelFaultIsNeverCleared : Obligations.ModelFaultIsNeverCleared :=
  fun _ _ _ hr h => (step_effect h).keepsFault.recorded hr

/-- Settles O30: the registers before the first unwritten one leave no record, and it leaves the record. -/
theorem unwrittenReadsAreRecorded : Obligations.UnwrittenReadsAreRecorded := by
  refine ⟨fun _ _ => rfl, fun s before after o hbefore => ⟨State.faultAfter_of_written hbefore, fun ho => ?_⟩⟩
  have hread : s.useOperands before = s := by rw [State.useOperands_eq, State.faultAfter_of_written hbefore]
  have hfirst : firstUnwritten ((o :: after).map fun o => (.operand o, s.operands.written o)) = some (.operand o) := by
    simp [firstUnwritten, ho]
  rw [← State.useOperands_useOperands, hread, State.useOperands_eq, State.faultAfter, hfirst]

end Sys2Proof
end

section
/-! # The block never stops

An instruction and every move of the machine go on in each state, but for the host's write to a byte that does not exist
(60_exceptions.md R200, log 7). -/

namespace Sys2Proof.Machine

open Sys2Proof

/-- A turn that ends in a next state. -/
def Turn.GoesOn (a : Turn) : Prop := ∃ t, finishTurn a = .next t

theorem Turn.goesOn_done (s : State) : (Turn.done s).GoesOn := ⟨s, rfl⟩

/-- An instruction goes on in every state, but for a RUN where no RLE decoder is in progress (42_decoders.md R152, log 13). -/
theorem exec_goesOn {i : Instr} {s : State} (hi : ∀ idx len, i = .run idx len → s.rle ≠ none) :
    ∃ t, exec i s = .next t := by
  cases i with
  | nop | window => exact ⟨_, rfl⟩
  | setrot rot =>
    cases hw : s.winOpen with
    | true => exact ⟨_, exec_setrot_open hw rot⟩
    | false => exact ⟨_, exec_setrot_closed hw rot⟩
  | pixel =>
    cases hw : s.winOpen with
    | true => exact ⟨_, exec_pixel_open hw⟩
    | false => exact ⟨_, exec_pixel_closed hw⟩
  | close =>
    cases hw : s.winOpen with
    | true => exact ⟨_, exec_close_open hw⟩
    | false => exact ⟨_, exec_close_closed hw⟩
  | blit1 fh fv =>
    cases hw : s.winOpen with
    | true => exact ⟨_, exec_blit_open rfl hw⟩
    | false => exact ⟨_, exec_blit1_closed hw fh fv⟩
  | blit4 fh fv =>
    cases hw : s.winOpen with
    | true => exact ⟨_, exec_blit_open rfl hw⟩
    | false =>
      by_cases hwidth : s.operands.imgW.value = 0
      · exact ⟨_, exec_blit4_noWidth hw fh fv hwidth⟩
      · exact ⟨_, exec_blit4_closed hw fh fv hwidth⟩
  | blitRle fh fv =>
    cases hw : s.winOpen with
    | true => exact ⟨_, exec_blit_open rfl hw⟩
    | false => exact ⟨_, exec_blitRle_closed hw fh fv⟩
  | run idx len =>
    obtain ⟨r, hr⟩ := Option.ne_none_iff_exists'.mp (hi idx len rfl)
    exact ⟨_, exec_run hr idx len⟩

/-- No command word decodes to the RLE token (30_encoding.md R74, R81). -/
theorem decodeCommand_ne_run {d : Word} {i : Instr} (h : decodeCommand d = .ok i) (idx len : BitVec 4) :
    i ≠ .run idx len := by
  rintro rfl
  cases encode_of_decodeCommand h

theorem commandTurn_goesOn (d : Word) (s : State) : (commandTurn d s).GoesOn := by
  unfold commandTurn
  split
  · exact Turn.goesOn_done _
  · split
    · next hdecoded => exact exec_goesOn fun idx len hrun => absurd hrun (decodeCommand_ne_run hdecoded idx len)
    · exact Turn.goesOn_done _

theorem busTurn_goesOn (op : BusOp) (s : State) : (busTurn op s).GoesOn := by
  cases op with
  | read a => exact Turn.goesOn_done _
  | write a d =>
    simp only [busTurn]
    split
    · exact commandTurn_goesOn d s
    · exact Turn.goesOn_done _

/-- A decode action goes on, whatever is left to be done after it: a token is fetched by a decoder in progress alone. -/
theorem blockTurn_map_goesOn (s : State) {f : State → State} (hf : ∀ u, (f u).rle = u.rle) :
    ((blockTurn s).map f).GoesOn := by
  rcases blockTurn_cases s with ⟨r, -, hturn⟩ | ⟨it, -, hit, hturn⟩ | ⟨-, hturn⟩
  · rw [hturn, rleTurn]
    split
    · exact Turn.goesOn_done _
    · change ∃ t, exec (decodeToken (s.tokenByte r)) (f (s.fetchToken r)) = .next t
      exact exec_goesOn fun _ _ _ => by simp [hf]
  · rcases iterTurn_action hit with hnone | ⟨u, x, hdone, -⟩
    · rw [hturn, hnone]
      exact Turn.goesOn_done _
    · rw [hturn, hdone]
      exact Turn.goesOn_done _
  · rw [hturn]
    exact Turn.goesOn_done _

theorem blockTurn_goesOn (s : State) : (blockTurn s).GoesOn := by
  have hmap : (blockTurn s).map id = blockTurn s := by cases blockTurn s <;> rfl
  exact hmap ▸ blockTurn_map_goesOn s fun _ => rfl

theorem busBlockTurn_goesOn (op : BusOp) (s : State) : (busBlockTurn op s).GoesOn := by
  have hbus := busTurn_goesOn op s
  rcases busTurn_effect op s with ⟨i, hrun, -⟩ | ⟨u, hdone, -⟩
  · rwa [busBlockTurn_of_run hrun, ← hrun]
  · simp only [busBlockTurn, hdone]
    split
    · exact blockTurn_map_goesOn _ fun _ => rfl
    · exact Turn.goesOn_done _

/-- A step goes on, or it is the host's write to a byte that does not exist (20_memory.md R50, log 7). -/
theorem step_goesOn_or_outside (s : State) :
    (∃ t, step s = .next t) ∨ ∃ a b rest, s.schedule = .hostStore a b :: rest ∧ s.params.srcSize ≤ a.toNat ∧
      step s = .fault .hostStoreOutsideSource := by
  rcases hs : s.schedule with _ | ⟨m, rest⟩
  · rw [step_of_empty_schedule hs]
    split
    · exact .inl (blockTurn_goesOn s)
    · exact .inl ⟨_, rfl⟩
  rw [step_of_cons hs]
  cases m with
  | bus op => exact .inl (busTurn_goesOn op _)
  | busWithBlock op => exact .inl (busBlockTurn_goesOn op _)
  | block => exact .inl (blockTurn_goesOn _)
  | accept | reset _ => exact .inl ⟨_, rfl⟩
  | hostStore a b =>
    simp only [moveTurn, hostStoreTurn]
    split
    · exact .inl ⟨_, rfl⟩
    · next hout => exact .inr ⟨a, b, rest, rfl, by simpa [State.inSource] using hout, rfl⟩

end Sys2Proof.Machine

namespace Sys2Proof

open Sys2Proof.Machine

/-- Settles O18: a step that does not go on is a host write outside source memory. -/
theorem theBlockNeverStops : Obligations.TheBlockNeverStops := by
  intro s
  rcases step_goesOn_or_outside s with ⟨t, hnext⟩ | ⟨a, b, rest, hs, hout, hfault⟩
  · simp [hnext]
  · exact ⟨by simp [hfault], fun _ _ => ⟨a, b, rest, hs, hout⟩⟩

end Sys2Proof
end

section
/-! # The flags at completion

The last event of a command is accepted, the command completes, and the flags it raised late settle (60_exceptions.md R205). -/

namespace Sys2Proof.Machine

open Sys2Proof

/-- Which late flags settle (R205): those raised and not cleared for certain, and none that was not raised. -/
theorem State.settledLate_bounds (s : State) (n : Nat) :
    (s.raised.getLsbD n = true → s.cleared.getLsbD n = false → s.settledLate.getLsbD n = true) ∧
      (s.settledLate.getLsbD n = true → s.raised.getLsbD n = true) := by
  have hself : Within s.raised s.raised := by simp [Within]
  have hwithin : Within s.settledLate s.raised := .or (hself.and _) (.ite _ (.zero _) ((hself.and _).and _))
  refine ⟨fun hr hc => ?_, (within_iff _ _).mp hwithin n⟩
  simp [-BitVec.getLsbD_eq_getElem, State.settledLate, hr, hc, BitVec.lt_of_getLsbD hr]

/-- Completion sets the flags that settle in STATUS and changes no other sticky bit. -/
theorem State.complete_sticky (s : State) {n : Nat} (hn : 8 ≤ n) :
    s.complete.status.getLsbD n = (s.status.getLsbD n || s.settledLate.getLsbD n) := by
  by_cases hlt : n < 32
  · simp [-BitVec.getLsbD_eq_getElem, State.complete, busyMask_high n hn, hlt]
  · simp [BitVec.getLsbD_of_ge _ n (not_lt.mp hlt)]

theorem State.acceptEvent_last {s : State} {e : Event} (hpending : s.pending = [e]) (hdone : s.decoding = false) :
    s.acceptEvent = ((s.passEvent e []).closeOn e).complete := by
  rcases s.acceptEvent_cases with ⟨hempty, -⟩ | ⟨e', rest, htaken, hnext⟩
  · simp [hempty] at hpending
  obtain ⟨rfl, rfl⟩ := List.cons.inj (hpending.symm.trans htaken)
  simpa [hdone] using hnext

/-- An accepted event changes no sticky bit and no flag raised or cleared late, before the command completes (R205). -/
theorem State.closeOn_late (s : State) (e : Event) : (s.closeOn e).raised = s.raised ∧ (s.closeOn e).cleared = s.cleared := by
  unfold State.closeOn
  split <;> exact ⟨rfl, rfl⟩

theorem State.closeOn_sticky (s : State) (e : Event) {n : Nat} (hn : 8 ≤ n) :
    (s.closeOn e).status.getLsbD n = s.status.getLsbD n := by
  unfold State.closeOn
  split
  · by_cases hlt : n < 32
    · simp [-BitVec.getLsbD_eq_getElem, State.setWinOpen, winOpenMask_high n hn, hlt]
    · simp [BitVec.getLsbD_of_ge _ n (not_lt.mp hlt)]
  · rfl

end Sys2Proof.Machine

namespace Sys2Proof

open Sys2Proof.Machine

/-- Settles O46: the last event is accepted, then the command completes and its late flags settle. -/
theorem raisedFlagsShowAtCompletion : Obligations.RaisedFlagsShowAtCompletion := by
  intro s rest e hs hpending hiter hrle
  have hdone : s.popped.decoding = false := by simp [State.decoding, State.popped, hiter, hrle]
  have hlast := State.acceptEvent_last (s := s.popped) hpending hdone
  obtain ⟨hraised, hcleared⟩ := (s.popped.passEvent e []).closeOn_late e
  refine ⟨_, step_of_accept hs, by rw [hlast]; rfl, by rw [hlast]; rfl, by rw [hlast]; rfl, fun n hn => ?_⟩
  obtain ⟨hsettled, hbound⟩ := ((s.popped.passEvent e []).closeOn e).settledLate_bounds n
  rw [hlast, State.complete_sticky _ hn, State.closeOn_sticky _ e hn, Bool.or_eq_true]
  rw [hraised, hcleared] at hsettled
  rw [hraised] at hbound
  exact ⟨.inl, fun hr hc => .inr (hsettled hr hc), .imp_right hbound⟩

end Sys2Proof
end

section
/-! # Reset, completion and the end of a run

A reset abandons the command in progress (70_reset_and_hazards.md R230). Without one, and with the transport taking what it is
offered, every command completes (R241). A run that has ended keeps its observation (R242). -/

namespace Sys2Proof.Machine

open Sys2Proof

/-! ## Reset -/

/-- A reset takes effect whatever bus transaction comes along with it (R230). -/
theorem step_of_reset {s : State} {along : Option BusOp} {rest : List Move} (h : s.schedule = .reset along :: rest) :
    step s = .next s.popped.resetBlock := by
  rw [step, turn_of_cons h]
  rfl

theorem State.offxEntry_resetBlock (s : State) (r : BitVec 2) : s.resetBlock.offxEntry r = ⟨0, true⟩ := by
  simp [State.offxEntry, State.resetBlock, State.resetWith, Marked.zeroWritten]

theorem State.offyEntry_resetBlock (s : State) (r : BitVec 2) : s.resetBlock.offyEntry r = ⟨0, true⟩ := by
  simp [State.offyEntry, State.resetBlock, State.resetWith, Marked.zeroWritten]

theorem State.palEntry_resetBlock (s : State) (k : BitVec 4) : s.resetBlock.palEntry k = ⟨0, false⟩ := by
  simp [State.palEntry, State.resetBlock, State.resetWith, Marked.unwritten]

theorem State.popped_schedule {s : State} {m : Move} {rest : List Move} (h : s.schedule = m :: rest) :
    s.popped.schedule = rest := by
  simp [State.popped, h]

/-! ## Decode work comes to its end -/

/-- The number of the pixel a region iterator stands at, row-major (42_decoders.md R140). -/
def Iter.position (it : Iter) : Nat := it.visW * it.j + it.i

theorem Iter.at_position {it : Iter} (h : it.Ok) : it.at it.position = it := by
  obtain ⟨⟨hpos, -⟩, hi, -⟩ := h
  rw [Iter.at, Iter.position, Nat.mul_add_mod, Nat.mod_eq_of_lt hi, Nat.mul_add_div hpos, Nat.div_eq_of_lt hi]
  rfl

theorem Iter.position_le {it : Iter} (h : it.Ok) : it.position ≤ it.visW * it.visH := by
  obtain ⟨-, hi, hj, hend⟩ := h
  rw [Iter.position]
  rcases hj.lt_or_eq with hrow | hlast
  · calc it.visW * it.j + it.i ≤ it.visW * (it.j + 1) := by rw [Nat.mul_succ]; omega
      _ ≤ it.visW * it.visH := Nat.mul_le_mul_left _ hrow
  · rw [hend hlast, hlast, Nat.add_zero]

section
variable {s : State} (hsched : s.schedule = [])
include hsched

/-- A pixel decoder comes to its end from any pixel of its clamped tile: each action leaves one pixel fewer. -/
theorem exists_decodes_of_pixelDecoder {i : Instr} {index : State → Iter → BitVec 4} (hdecoder : PixelDecoder i index)
    {it : Iter} (hok : it.Ok) (hcurrent : s.current = some i) (hrle : s.rle = none) (hiter : s.iter = some it) :
    ∃ colors, Decodes s colors := by
  have hleft : it.position + (it.visW * it.visH - it.position) = it.visW * it.visH :=
    Nat.add_sub_cancel' (Iter.position_le hok)
  have hstart : s.iter = some (it.at it.position) := by rw [Iter.at_position hok, hiter]
  obtain ⟨⟨hpos, -⟩, -⟩ := hok
  exact ⟨_, decodes_pixels hdecoder hpos hleft hsched hcurrent hrle hstart⟩

/-- An RLE decoder comes to its end from anywhere in its tile: each token decodes at least one pixel of the budget
(42_decoders.md R155, R159). -/
theorem exists_decodes_of_rle {r : Rle} (hrle : s.rle = some r) : ∃ colors, Decodes s colors :=
  ⟨_, decodes_tokens (r := r) le_rfl hsched hrle⟩

/-- A BLITRLE looks up its tile and then comes to the end of its tokens. -/
theorem exists_decodes_of_table {it : Iter} {fh fv : Bool} (hcurrent : s.current = some (.blitRle fh fv))
    (hrle : s.rle = none) (hiter : s.iter = some it) : ∃ colors, Decodes s colors := by
  obtain ⟨hstep, hemits⟩ := step_of_table hsched hcurrent hrle hiter
  obtain ⟨colors, hrest⟩ :=
    exists_decodes_of_rle (s := tableMove it s) ((State.schedule_congr hemits.surroundings).trans hsched) rfl
  exact ⟨[] ++ colors, decodes_append hstep hemits hrest⟩

/-- Whatever decode work a coherent block has comes to its end. -/
theorem State.Coherent.exists_decodes (hs : s.Coherent) (hwork : s.decoding = true) : ∃ colors, Decodes s colors := by
  rcases hrle : s.rle with _ | r
  · obtain ⟨it, hiter⟩ : ∃ it, s.iter = some it := by
      simpa [State.decoding, hrle, Option.isSome_iff_exists] using hwork
    obtain ⟨hdecode, -⟩ := hs.decode
    obtain ⟨-, hok, i, hcurrent, hblit⟩ := hdecode it hiter
    cases i with
    | blit1 fh fv => exact exists_decodes_of_pixelDecoder hsched (blit1_decoder fh fv) hok hcurrent hrle hiter
    | blit4 fh fv => exact exists_decodes_of_pixelDecoder hsched (blit4_decoder fh fv) hok hcurrent hrle hiter
    | blitRle fh fv => exact exists_decodes_of_table hsched hcurrent hrle hiter
    | nop | setrot _ | window | pixel | close | run _ _ => cases hblit
  · exact exists_decodes_of_rle hsched hrle

/-- With nothing scheduled the block comes to a state without decode work (R241). -/
theorem State.Coherent.steps_to_decoded (hs : s.Coherent) :
    ∃ t, Steps s t ∧ t.decoding = false ∧ t.schedule = [] := by
  cases hwork : s.decoding with
  | false => exact ⟨s, .refl, hwork, hsched⟩
  | true =>
    obtain ⟨_, t, hsteps, hemits, hdone⟩ := hs.exists_decodes hsched hwork
    exact ⟨t, hsteps, hdone, (State.schedule_congr hemits.surroundings).trans hsched⟩

end

/-! ## The end of a run -/

theorem Move.continuesRun_eq_false_iff (m : Move) :
    m.continuesRun = false ↔ m = .block ∨ m = .accept ∨ ∃ a b, m = .hostStore a b := by
  cases m <;> simp [Move.continuesRun]

/-- The host is done when only moves of the block and the transport and writes to source memory are to come (R242, log 21). -/
theorem State.hostDone_iff (s : State) :
    s.hostDone = true ↔ ∀ m ∈ s.schedule, m = .block ∨ m = .accept ∨ ∃ a b, m = .hostStore a b := by
  simp [State.hostDone, Move.continuesRun_eq_false_iff]

theorem State.hostDone_popped {s : State} (h : s.hostDone = true) : s.popped.hostDone = true :=
  (State.hostDone_iff _).mpr fun m hm => (State.hostDone_iff s).mp h m (List.mem_of_mem_tail hm)

/-- What an ended run is observed by: the accepted events and the final register values (R242). -/
def State.finalValues (s : State) : Observation where
  events := s.accepted
  operands := s.operands
  pal := s.pal
  offx := s.offx
  offy := s.offy
  orient := s.orient
  status := s.status

/-- A run has ended with no model fault recorded (R242, 60_exceptions.md R213). -/
def State.Ended (s : State) : Prop := s.busy = false ∧ s.modelFault = none ∧ s.hostDone = true

theorem State.observation_of_ended {s : State} (h : s.Ended) : s.observation = some s.finalValues := by
  obtain ⟨hidle, hfault, hdone⟩ := h
  simp [State.observation, State.finalValues, hidle, hfault, hdone]

theorem State.observation_of_not_ended {s : State} (h : ¬ s.Ended) : s.observation = none := by
  have hopen : s.hostDone = true → s.busy = false → s.modelFault ≠ none :=
    fun hdone hidle hfault => h ⟨hidle, hfault, hdone⟩
  simpa [State.observation] using hopen

theorem State.ended_of_observation {s : State} {o : Observation} (h : s.observation = some o) :
    s.Ended ∧ o = s.finalValues := by
  by_cases hended : s.Ended
  · rw [State.observation_of_ended hended] at h
    exact ⟨hended, (Option.some.inj h).symm⟩
  · simp [State.observation_of_not_ended hended] at h

/-- An idle block has nothing to do: neither it nor the transport changes the state (60_exceptions.md R212). -/
theorem State.Coherent.at_rest {s : State} (hs : s.Coherent) (hidle : s.busy = false) :
    blockTurn s = .done s ∧ s.acceptEvent = s := by
  obtain ⟨-, hiter, hrle, hpending, -⟩ := hs.idle hidle
  exact ⟨by simp [blockTurn, hrle, hiter], by simp [State.acceptEvent, hpending]⟩

/-- Once the host is done and the block idle, a step only takes a move off the schedule, and may write source memory. -/
theorem step_of_hostDone {s t : State} (hs : s.Coherent) (hidle : s.busy = false) (hdone : s.hostDone = true)
    (h : step s = .next t) : t = s.popped ∨ ∃ a b, t = s.popped.overwrite a b := by
  obtain ⟨hblock, haccept⟩ := hs.popped.at_rest hidle
  rcases hsched : s.schedule with _ | ⟨m, rest⟩
  · obtain ⟨-, hiter, hrle, -⟩ := hs.idle hidle
    rw [step_of_drain hsched (by simp [State.decoding, hiter, hrle]), ← State.popped_of_nil hsched, haccept] at h
    cases h
    exact .inl rfl
  · rw [step, turn_of_cons hsched] at h
    rcases (State.hostDone_iff s).mp hdone m (by simp [hsched]) with rfl | rfl | ⟨a, b, rfl⟩
    · rw [moveTurn, hblock] at h
      cases h
      exact .inl rfl
    · rw [moveTurn, haccept] at h
      cases h
      exact .inl rfl
    · rw [moveTurn, hostStoreTurn] at h
      split at h
      · cases h
        exact .inr ⟨a, b, rfl⟩
      · cases h

/-- A step of an ended run ends in an ended run with the same final values. -/
theorem State.Ended.step {s t : State} (h : s.Ended) (hs : s.Coherent) (hstep : step s = .next t) :
    t.Ended ∧ t.finalValues = s.finalValues := by
  obtain ⟨hidle, hfault, hdone⟩ := h
  have hdone' := State.hostDone_popped hdone
  rcases step_of_hostDone hs hidle hdone hstep with rfl | ⟨a, b, rfl⟩
  · exact ⟨⟨hidle, hfault, hdone'⟩, rfl⟩
  · exact ⟨⟨hidle, hfault, hdone'⟩, rfl⟩

end Sys2Proof.Machine

namespace Sys2Proof

open Sys2Proof.Machine

/-- Settles O48: the decode work comes to its end, since every action leaves less of the tile, and then the transport takes the
pending events one by one. -/
theorem everyCommandCompletes : Obligations.EveryCommandCompletes := by
  intro s hs hsched
  obtain ⟨t, hdecode, hdone, hsched'⟩ := hs.steps_to_decoded hsched
  have ht : t.Coherent := hdecode.coherent hs
  obtain ⟨u, hdrain, hidle, -⟩ := steps_drain ht hsched' hdone
  obtain ⟨k, hk⟩ := Steps.exists_runSteps (hdecode.trans hdrain)
  exact ⟨k, u, hk, hidle, hdrain.coherent ht⟩

/-- Settles O56: an observation is the final values of an ended run, and a later step can only write source memory. -/
theorem endedRunsKeepTheirObservation : Obligations.EndedRunsKeepTheirObservation := by
  refine ⟨fun s => ?_, fun s t o hs ho hstep => ?_⟩
  · rw [← State.hostDone_iff]
    exact ⟨State.observation_of_not_ended, State.observation_of_ended⟩
  · obtain ⟨hended, rfl⟩ := State.ended_of_observation ho
    obtain ⟨hended', hsame⟩ := hended.step hs hstep
    rw [State.observation_of_ended hended', hsame]

/-- Settles O5, field by field: the state after the step is the block's own reset of the state before. -/
theorem resetAbandonsTheCommand : Obligations.ResetAbandonsTheCommand := by
  intro s along rest h
  exact ⟨_, step_of_reset h, rfl, rfl, fun r => ⟨State.offxEntry_resetBlock _ r, State.offyEntry_resetBlock _ r⟩,
    OperandFile.written_reset, fun k => congrArg Marked.written (State.palEntry_resetBlock _ k), rfl, rfl, rfl, rfl, rfl, rfl,
    State.popped_schedule h⟩

end Sys2Proof
end
